-- ==== Sys2Proof/Word.lean ====
section
/-! DEFINITION. Word.lean: bytes and 16-bit words (00_scope.md R7). Arithmetic wraps by the width of the type
(10_state.md R25, R26). The helpers on them stand in Machine/Params.lean. -/

namespace Sys2Proof

/-- `u8`: a register, a memory cell, an instruction byte (R7). -/
abbrev Byte := BitVec 8

/-- `u16`: an address, SP, PC, a pair view (R7). -/
abbrev Word := BitVec 16

end Sys2Proof
end

