-- ==== Sys2Proof/Config.lean ====
section
/-! DEFINITION. Config.lean: the model's one free value. The parameters of 00_scope.md R6 and
70_reset_and_hazards.md R402 are `Config.<name>` in Machine/Params.lean, each at the default the spec takes; the
maps PRIMARY_MAP and EXTENDED_MAP are `primarySlot` and `extendedForm` (Decode.lean); DAA_ADJUST is
`Machine.daaAdjust` (Machine/Flags.lean). -/

namespace Sys2Proof

/-- FREE VALUE (log 4): what the environment answers to the k-th read of a cell whose behaviour it does
not declare, at the given address (R62, 93_implementation_defined.md U7 "any value"). -/
opaque Config.deviceByte : Nat → Word → Byte

end Sys2Proof
end

