-- ==== Sys2Proof/Names.lean ====
section
/-! DEFINITION. Names.lean: the fixed sets of names the spec gives: registers, pairs, operands,
conditions, flags, operations of the two dispatch tables. No encoding stands here (Decode.lean). -/

namespace Sys2Proof

/-- The seven general 8-bit registers (10_state.md R22). -/
inductive Reg8 where
  | B | C | D | E | H | L | A
deriving DecidableEq, Repr

/-- The eight 8-bit operands: a register, or the byte in memory at HL (30_encoding.md R94). -/
inductive Operand8 where
  | reg (r : Reg8)
  | mHL
deriving DecidableEq, Repr

/-- `rp`: the pairs of `LD rp,nn`, `ADD HL,rp`, `INC rp`, `DEC rp` (R95). -/
inductive Pair where
  | BC | DE | HL | SP
deriving DecidableEq, Repr

/-- `rp2`: the pairs of PUSH and POP (R95). -/
inductive StackPair where
  | BC | DE | HL | AF
deriving DecidableEq, Repr

/-- The two pairs an accumulator load may use as a pointer (40_load8.md R136 to R139). -/
inductive PtrPair where
  | BC | DE
deriving DecidableEq, Repr

/-- The four conditions (00_scope.md R12). -/
inductive Cond where
  | NZ | Z | NC | C
deriving DecidableEq, Repr

/-- The four flags (10_state.md R32). -/
inductive Flag where
  | zero | subtract | halfCarry | carry
deriving DecidableEq, Repr

/-- The value of a 3-bit field: a bit number, an RST index, or a decoder field (R93). -/
inductive Oct where
  | o0 | o1 | o2 | o3 | o4 | o5 | o6 | o7
deriving DecidableEq, Repr

/-- The eight accumulator operations (R98). -/
inductive AluOp where
  | add | adc | sub | sbc | and | xor | or | cp
deriving DecidableEq, Repr

/-- The four accumulator rotates (42_alu8.md R200 to R203). -/
inductive AccRot where
  | rlca | rrca | rla | rra
deriving DecidableEq, Repr

/-- The eight rotate, shift and swap operations of the extended table (R99). -/
inductive RotOp where
  | rlc | rrc | rl | rr | sla | sra | swap | srl
deriving DecidableEq, Repr

/-- The two dispatch tables (60_exceptions.md R340). -/
inductive OpTable where
  | primary | extended
deriving DecidableEq, Repr

/-- The five interrupt types, 0 the highest priority (60_exceptions.md R346). -/
inductive IrqType where
  | t0 | t1 | t2 | t3 | t4
deriving DecidableEq, Repr

end Sys2Proof
end

