-- ==== Sys2Proof/Machine/Params.lean ====
section
/-! DEFINITION. Machine/Params.lean: helpers on bytes and words (00_scope.md R7, R8), the numbers of named things, and
the parameters of 00_scope.md R6 and 70_reset_and_hazards.md R402, each at the default the spec takes. -/

namespace Sys2Proof

/-! ### Bytes and words -/

/-- `hi(v) = v[15:8]` (R7). -/
def hiByte (v : Word) : Byte := v.extractLsb' 8 8

/-- `lo(v) = v[7:0]` (R7). -/
def loByte (v : Word) : Byte := v.extractLsb' 0 8

/-- `h ‖ l`: the first byte is the high one (R7). -/
def joinBytes (h l : Byte) : Word := h ++ l

/-- `sext_16(v)`: v if v < 128, else v + 0xFF00 (R8). -/
def sext16 (v : Byte) : Word := v.signExtend 16

/-- The number a carry takes part in a sum with: 1 or 0 (R7). -/
def bit01 (b : Bool) : Nat := if b then 1 else 0

/-! ### Numbers of named things -/

/-- The number a 3-bit field holds. -/
def Oct.toNat : Oct → Nat
  | .o0 => 0 | .o1 => 1 | .o2 => 2 | .o3 => 3 | .o4 => 4 | .o5 => 5 | .o6 => 6 | .o7 => 7

/-- The index i of an interrupt type (R346). -/
def IrqType.index : IrqType → Nat
  | .t0 => 0 | .t1 => 1 | .t2 => 2 | .t3 => 3 | .t4 => 4

/-- The types in priority order, the highest first (R348). -/
def IrqType.byPriority : List IrqType := [.t0, .t1, .t2, .t3, .t4]

/-! ### The tables and the layouts (R6) -/

/-- ESCAPE_OPCODE (R6, R105). -/
def Config.escapeOpcode : Byte := 0xCB

/-- INVALID_PRIMARY: the eleven bytes of 30_encoding.md R102. -/
def Config.invalidPrimary : List Byte :=
  [0xD3, 0xDB, 0xDD, 0xE3, 0xE4, 0xEB, 0xEC, 0xED, 0xF4, 0xFC, 0xFD]

/-- UNIMPL_PRIMARY: empty (R104, D6). -/
def Config.unimplPrimary : List Byte := []

/-- UNIMPL_EXTENDED: empty (R104, D6). -/
def Config.unimplExtended : List Byte := []

/-- The operand a 3-bit code selects in the primary table: B, C, D, E, H, L, (HL), A (R94). -/
def Config.operandOrder : Oct → Operand8
  | .o0 => .reg .B | .o1 => .reg .C | .o2 => .reg .D | .o3 => .reg .E
  | .o4 => .reg .H | .o5 => .reg .L | .o6 => .mHL | .o7 => .reg .A

/-- EXT_OPERAND_ORDER: the same order in the extended table (R6, R94, D4, conflict C4). -/
def Config.extOperandOrder : Oct → Operand8 := Config.operandOrder

/-- F_BITS: Z, N, H, C at bits 7, 6, 5, 4 of F (10_state.md R30, D8). -/
def Config.flagBit : Flag → Nat
  | .zero => 7 | .subtract => 6 | .halfCarry => 5 | .carry => 4

/-- IRQ_BIT: type i is bit i of IE and IF (10_state.md R40, D18). -/
def Config.irqBit (i : IrqType) : Nat := i.index

/-! ### The boot pattern RESET_* (10_state.md R45, D10) -/

/-- RESET_A. -/
def Config.resetA : Byte := 0x01
/-- RESET_F. -/
def Config.resetF : Byte := 0xB0
/-- RESET_B. -/
def Config.resetB : Byte := 0x00
/-- RESET_C. -/
def Config.resetC : Byte := 0x13
/-- RESET_D. -/
def Config.resetD : Byte := 0x00
/-- RESET_E. -/
def Config.resetE : Byte := 0xD8
/-- RESET_H. -/
def Config.resetH : Byte := 0x01
/-- RESET_L. -/
def Config.resetL : Byte := 0x4D

/-! ### Lengths and cycle counts the document leaves open (R401 rows "gk", R402) -/

/-- STOP_LENGTH: the bytes the fetch stage consumes for STOP (30_encoding.md R105, D14). -/
def Config.stopLength : Nat := 2
/-- HALT_IDLE_CYCLES (47_dispatch.md R330 step 3, D12). -/
def Config.haltIdleCycles : Nat := 4
/-- STOP_IDLE_CYCLES (47_dispatch.md R330 step 1, D13). -/
def Config.stopIdleCycles : Nat := 0
/-- CYC_EXT_ESCAPE_EXTRA: what the escape adds (45_cpu_control.md R275, R402). -/
def Config.cycExtEscapeExtra : Nat := 4
/-- CYC_LD_SP_HL (41_load16_stack.md R162, D17). -/
def Config.cycLdSpHl : Nat := 8
/-- `LD rp,nn` (R161). -/
def Config.cycLdPairImm : Nat := 12
/-- `LD HL,SP+d` (R164). -/
def Config.cycLdHlSp : Nat := 12
/-- `LD (nn),SP` (R163). -/
def Config.cycLdAbsSp : Nat := 20
/-- The four loads through HL with post-modification (R146 to R149). -/
def Config.cycLdHlMod : Nat := 8
/-- RLCA, RRCA, RLA, RRA (R200 to R203). -/
def Config.cycAccRot : Nat := 4
/-- DAA (R205). -/
def Config.cycDaa : Nat := 4
/-- CPL (R206). -/
def Config.cycCpl : Nat := 4
/-- SCF (R207). -/
def Config.cycScf : Nat := 4
/-- CCF (R208). -/
def Config.cycCcf : Nat := 4
/-- `ADD HL,rp` (R220). -/
def Config.cycAddHl : Nat := 8
/-- `ADD SP,d` (R221). -/
def Config.cycAddSp : Nat := 16
/-- `INC rp` (R222). -/
def Config.cycIncPair : Nat := 8
/-- `DEC rp` (R223). -/
def Config.cycDecPair : Nat := 8
/-- RETI (R250). -/
def Config.cycReti : Nat := 16
/-- NOP (R270). -/
def Config.cycNop : Nat := 4

/-! ### Memory that nothing has written -/

/-- What a cell of the environment's memory reads as before anything has written it.
DESIGN CHOICE (log 3): the convention of 95_test_vectors.md, "0x00 where nothing is stated". -/
def Config.backgroundByte : Byte := 0x00

end Sys2Proof
end

