-- ==== Sys2Proof/WellFormed.lean ====
section
/-! DEFINITION. WellFormed.lean: the checks an instruction's operands must pass to be one the two tables
hold (30_encoding.md R102, R104, R105). -/

namespace Sys2Proof

/-- Every value of an immediate is legal (40_load8.md R132, R140), so only two rows have a check:
`invalid` carries a byte whose primary slot is empty (R102, R104), and `escape` stands by itself only with a
byte whose extended slot is empty (R105: "an extended instruction" otherwise, which is its own row). -/
def WellFormed : Instr → Bool
  | .invalid op => Config.invalidPrimary.contains op || Config.unimplPrimary.contains op
  | .escape e => Config.unimplExtended.contains e
  | _ => true

end Sys2Proof
end

