-- ==== Sys2Proof/Decode.lean ====
section
/-! DEFINITION. Decode.lean: bytes to instructions, by the field maps of 30_encoding.md R93 to R106, and after
it the encoder, written from the byte-value maps of R101 and R106. The two are written from different tables
of the spec. -/

namespace Sys2Proof

/-- The value of a 3-bit field. -/
def Oct.ofField (n : Nat) : Oct :=
  match n % 8 with
  | 0 => .o0 | 1 => .o1 | 2 => .o2 | 3 => .o3 | 4 => .o4 | 5 => .o5 | 6 => .o6 | _ => .o7

/-! ### The forms: the instructions by family and operand -/

/-- An extended instruction: an operation and one of the eight operands (R99, R106). -/
inductive ExtForm where
  | rot (op : RotOp) (o : Operand8)
  | bit (b : Oct) (o : Operand8)
  | res (b : Oct) (o : Operand8)
  | set (b : Oct) (o : Operand8)
deriving DecidableEq, Repr

/-- The instructions as the rules of files 40 to 46 give them: one form per rule, its operands as arguments. -/
inductive Form where
  | nop | halt | stop | di | ei
  | escape (e : Byte)
  | invalid (op : Byte)
  | ldRegReg (d r : Reg8)
  | ldRegImm (d : Reg8) (n : Byte)
  | ldRegMem (d : Reg8)
  | ldMemReg (r : Reg8)
  | ldMemImm (n : Byte)
  | ldAPtr (p : PtrPair)
  | ldPtrA (p : PtrPair)
  | ldAAbs (nn : Word)
  | ldAbsA (nn : Word)
  | ldhAImm (n : Byte)
  | ldhImmA (n : Byte)
  | ldAIoC
  | ldIoCA
  | ldIncA
  | ldAInc
  | ldDecA
  | ldADec
  | ldPairImm (rp : Pair) (nn : Word)
  | ldSPHL
  | ldAbsSP (nn : Word)
  | ldHLSP (d : Byte)
  | push (rp2 : StackPair)
  | pop (rp2 : StackPair)
  | inc8 (o : Operand8)
  | dec8 (o : Operand8)
  | alu (op : AluOp) (o : Operand8)
  | aluImm (op : AluOp) (n : Byte)
  | accRot (k : AccRot)
  | daa | cpl | scf | ccf
  | addHL (rp : Pair)
  | addSP (d : Byte)
  | incPair (rp : Pair)
  | decPair (rp : Pair)
  | jp (nn : Word)
  | jpCond (cc : Cond) (nn : Word)
  | jpHL
  | jr (d : Byte)
  | jrCond (cc : Cond) (d : Byte)
  | call (nn : Word)
  | callCond (cc : Cond) (nn : Word)
  | ret
  | retCond (cc : Cond)
  | reti
  | rst (t : Oct)
  | ext (x : ExtForm)
deriving DecidableEq, Repr

/-- The instruction a form with its operands is. -/
def Form.toInstr : Form → Instr
  | .nop => .nop
  | .ldPairImm .BC nn => .ld_BC_nn nn
  | .ldPtrA .BC => .ld_mBC_A
  | .incPair .BC => .inc_BC
  | .inc8 (.reg .B) => .inc_B
  | .dec8 (.reg .B) => .dec_B
  | .ldRegImm .B n => .ld_B_n n
  | .accRot .rlca => .rlca
  | .ldAbsSP nn => .ld_mnn_SP nn
  | .addHL .BC => .add_HL_BC
  | .ldAPtr .BC => .ld_A_mBC
  | .decPair .BC => .dec_BC
  | .inc8 (.reg .C) => .inc_C
  | .dec8 (.reg .C) => .dec_C
  | .ldRegImm .C n => .ld_C_n n
  | .accRot .rrca => .rrca
  | .stop => .stop
  | .ldPairImm .DE nn => .ld_DE_nn nn
  | .ldPtrA .DE => .ld_mDE_A
  | .incPair .DE => .inc_DE
  | .inc8 (.reg .D) => .inc_D
  | .dec8 (.reg .D) => .dec_D
  | .ldRegImm .D n => .ld_D_n n
  | .accRot .rla => .rla
  | .jr d => .jr_d d
  | .addHL .DE => .add_HL_DE
  | .ldAPtr .DE => .ld_A_mDE
  | .decPair .DE => .dec_DE
  | .inc8 (.reg .E) => .inc_E
  | .dec8 (.reg .E) => .dec_E
  | .ldRegImm .E n => .ld_E_n n
  | .accRot .rra => .rra
  | .jrCond .NZ d => .jr_NZ_d d
  | .ldPairImm .HL nn => .ld_HL_nn nn
  | .ldIncA => .ld_mHLI_A
  | .incPair .HL => .inc_HL
  | .inc8 (.reg .H) => .inc_H
  | .dec8 (.reg .H) => .dec_H
  | .ldRegImm .H n => .ld_H_n n
  | .daa => .daa
  | .jrCond .Z d => .jr_Z_d d
  | .addHL .HL => .add_HL_HL
  | .ldAInc => .ld_A_mHLI
  | .decPair .HL => .dec_HL
  | .inc8 (.reg .L) => .inc_L
  | .dec8 (.reg .L) => .dec_L
  | .ldRegImm .L n => .ld_L_n n
  | .cpl => .cpl
  | .jrCond .NC d => .jr_NC_d d
  | .ldPairImm .SP nn => .ld_SP_nn nn
  | .ldDecA => .ld_mHLD_A
  | .incPair .SP => .inc_SP
  | .inc8 .mHL => .inc_mHL
  | .dec8 .mHL => .dec_mHL
  | .ldMemImm n => .ld_mHL_n n
  | .scf => .scf
  | .jrCond .C d => .jr_C_d d
  | .addHL .SP => .add_HL_SP
  | .ldADec => .ld_A_mHLD
  | .decPair .SP => .dec_SP
  | .inc8 (.reg .A) => .inc_A
  | .dec8 (.reg .A) => .dec_A
  | .ldRegImm .A n => .ld_A_n n
  | .ccf => .ccf
  | .ldRegReg .B .B => .ld_B_B
  | .ldRegReg .B .C => .ld_B_C
  | .ldRegReg .B .D => .ld_B_D
  | .ldRegReg .B .E => .ld_B_E
  | .ldRegReg .B .H => .ld_B_H
  | .ldRegReg .B .L => .ld_B_L
  | .ldRegMem .B => .ld_B_mHL
  | .ldRegReg .B .A => .ld_B_A
  | .ldRegReg .C .B => .ld_C_B
  | .ldRegReg .C .C => .ld_C_C
  | .ldRegReg .C .D => .ld_C_D
  | .ldRegReg .C .E => .ld_C_E
  | .ldRegReg .C .H => .ld_C_H
  | .ldRegReg .C .L => .ld_C_L
  | .ldRegMem .C => .ld_C_mHL
  | .ldRegReg .C .A => .ld_C_A
  | .ldRegReg .D .B => .ld_D_B
  | .ldRegReg .D .C => .ld_D_C
  | .ldRegReg .D .D => .ld_D_D
  | .ldRegReg .D .E => .ld_D_E
  | .ldRegReg .D .H => .ld_D_H
  | .ldRegReg .D .L => .ld_D_L
  | .ldRegMem .D => .ld_D_mHL
  | .ldRegReg .D .A => .ld_D_A
  | .ldRegReg .E .B => .ld_E_B
  | .ldRegReg .E .C => .ld_E_C
  | .ldRegReg .E .D => .ld_E_D
  | .ldRegReg .E .E => .ld_E_E
  | .ldRegReg .E .H => .ld_E_H
  | .ldRegReg .E .L => .ld_E_L
  | .ldRegMem .E => .ld_E_mHL
  | .ldRegReg .E .A => .ld_E_A
  | .ldRegReg .H .B => .ld_H_B
  | .ldRegReg .H .C => .ld_H_C
  | .ldRegReg .H .D => .ld_H_D
  | .ldRegReg .H .E => .ld_H_E
  | .ldRegReg .H .H => .ld_H_H
  | .ldRegReg .H .L => .ld_H_L
  | .ldRegMem .H => .ld_H_mHL
  | .ldRegReg .H .A => .ld_H_A
  | .ldRegReg .L .B => .ld_L_B
  | .ldRegReg .L .C => .ld_L_C
  | .ldRegReg .L .D => .ld_L_D
  | .ldRegReg .L .E => .ld_L_E
  | .ldRegReg .L .H => .ld_L_H
  | .ldRegReg .L .L => .ld_L_L
  | .ldRegMem .L => .ld_L_mHL
  | .ldRegReg .L .A => .ld_L_A
  | .ldMemReg .B => .ld_mHL_B
  | .ldMemReg .C => .ld_mHL_C
  | .ldMemReg .D => .ld_mHL_D
  | .ldMemReg .E => .ld_mHL_E
  | .ldMemReg .H => .ld_mHL_H
  | .ldMemReg .L => .ld_mHL_L
  | .halt => .halt
  | .ldMemReg .A => .ld_mHL_A
  | .ldRegReg .A .B => .ld_A_B
  | .ldRegReg .A .C => .ld_A_C
  | .ldRegReg .A .D => .ld_A_D
  | .ldRegReg .A .E => .ld_A_E
  | .ldRegReg .A .H => .ld_A_H
  | .ldRegReg .A .L => .ld_A_L
  | .ldRegMem .A => .ld_A_mHL
  | .ldRegReg .A .A => .ld_A_A
  | .alu .add (.reg .B) => .add_A_B
  | .alu .add (.reg .C) => .add_A_C
  | .alu .add (.reg .D) => .add_A_D
  | .alu .add (.reg .E) => .add_A_E
  | .alu .add (.reg .H) => .add_A_H
  | .alu .add (.reg .L) => .add_A_L
  | .alu .add .mHL => .add_A_mHL
  | .alu .add (.reg .A) => .add_A_A
  | .alu .adc (.reg .B) => .adc_A_B
  | .alu .adc (.reg .C) => .adc_A_C
  | .alu .adc (.reg .D) => .adc_A_D
  | .alu .adc (.reg .E) => .adc_A_E
  | .alu .adc (.reg .H) => .adc_A_H
  | .alu .adc (.reg .L) => .adc_A_L
  | .alu .adc .mHL => .adc_A_mHL
  | .alu .adc (.reg .A) => .adc_A_A
  | .alu .sub (.reg .B) => .sub_B
  | .alu .sub (.reg .C) => .sub_C
  | .alu .sub (.reg .D) => .sub_D
  | .alu .sub (.reg .E) => .sub_E
  | .alu .sub (.reg .H) => .sub_H
  | .alu .sub (.reg .L) => .sub_L
  | .alu .sub .mHL => .sub_mHL
  | .alu .sub (.reg .A) => .sub_A
  | .alu .sbc (.reg .B) => .sbc_A_B
  | .alu .sbc (.reg .C) => .sbc_A_C
  | .alu .sbc (.reg .D) => .sbc_A_D
  | .alu .sbc (.reg .E) => .sbc_A_E
  | .alu .sbc (.reg .H) => .sbc_A_H
  | .alu .sbc (.reg .L) => .sbc_A_L
  | .alu .sbc .mHL => .sbc_A_mHL
  | .alu .sbc (.reg .A) => .sbc_A_A
  | .alu .and (.reg .B) => .and_B
  | .alu .and (.reg .C) => .and_C
  | .alu .and (.reg .D) => .and_D
  | .alu .and (.reg .E) => .and_E
  | .alu .and (.reg .H) => .and_H
  | .alu .and (.reg .L) => .and_L
  | .alu .and .mHL => .and_mHL
  | .alu .and (.reg .A) => .and_A
  | .alu .xor (.reg .B) => .xor_B
  | .alu .xor (.reg .C) => .xor_C
  | .alu .xor (.reg .D) => .xor_D
  | .alu .xor (.reg .E) => .xor_E
  | .alu .xor (.reg .H) => .xor_H
  | .alu .xor (.reg .L) => .xor_L
  | .alu .xor .mHL => .xor_mHL
  | .alu .xor (.reg .A) => .xor_A
  | .alu .or (.reg .B) => .or_B
  | .alu .or (.reg .C) => .or_C
  | .alu .or (.reg .D) => .or_D
  | .alu .or (.reg .E) => .or_E
  | .alu .or (.reg .H) => .or_H
  | .alu .or (.reg .L) => .or_L
  | .alu .or .mHL => .or_mHL
  | .alu .or (.reg .A) => .or_A
  | .alu .cp (.reg .B) => .cp_B
  | .alu .cp (.reg .C) => .cp_C
  | .alu .cp (.reg .D) => .cp_D
  | .alu .cp (.reg .E) => .cp_E
  | .alu .cp (.reg .H) => .cp_H
  | .alu .cp (.reg .L) => .cp_L
  | .alu .cp .mHL => .cp_mHL
  | .alu .cp (.reg .A) => .cp_A
  | .retCond .NZ => .ret_NZ
  | .pop .BC => .pop_BC
  | .jpCond .NZ nn => .jp_NZ_nn nn
  | .jp nn => .jp_nn nn
  | .callCond .NZ nn => .call_NZ_nn nn
  | .push .BC => .push_BC
  | .aluImm .add n => .add_A_n n
  | .rst .o0 => .rst_00
  | .retCond .Z => .ret_Z
  | .ret => .ret
  | .jpCond .Z nn => .jp_Z_nn nn
  | .escape e => .escape e
  | .callCond .Z nn => .call_Z_nn nn
  | .call nn => .call_nn nn
  | .aluImm .adc n => .adc_A_n n
  | .rst .o1 => .rst_08
  | .retCond .NC => .ret_NC
  | .pop .DE => .pop_DE
  | .jpCond .NC nn => .jp_NC_nn nn
  | .invalid op => .invalid op
  | .callCond .NC nn => .call_NC_nn nn
  | .push .DE => .push_DE
  | .aluImm .sub n => .sub_n n
  | .rst .o2 => .rst_10
  | .retCond .C => .ret_C
  | .reti => .reti
  | .jpCond .C nn => .jp_C_nn nn
  | .callCond .C nn => .call_C_nn nn
  | .aluImm .sbc n => .sbc_A_n n
  | .rst .o3 => .rst_18
  | .ldhImmA n => .ldh_mn_A n
  | .pop .HL => .pop_HL
  | .ldIoCA => .ld_mC_A
  | .push .HL => .push_HL
  | .aluImm .and n => .and_n n
  | .rst .o4 => .rst_20
  | .addSP d => .add_SP_d d
  | .jpHL => .jp_mHL
  | .ldAbsA nn => .ld_mnn_A nn
  | .aluImm .xor n => .xor_n n
  | .rst .o5 => .rst_28
  | .ldhAImm n => .ldh_A_mn n
  | .pop .AF => .pop_AF
  | .ldAIoC => .ld_A_mC
  | .di => .di
  | .push .AF => .push_AF
  | .aluImm .or n => .or_n n
  | .rst .o6 => .rst_30
  | .ldHLSP d => .ld_HL_SPd d
  | .ldSPHL => .ld_SP_HL
  | .ldAAbs nn => .ld_A_mnn nn
  | .ei => .ei
  | .aluImm .cp n => .cp_n n
  | .rst .o7 => .rst_38
  | .ext (.rot .rlc (.reg .B)) => .rlc_B
  | .ext (.rot .rlc (.reg .C)) => .rlc_C
  | .ext (.rot .rlc (.reg .D)) => .rlc_D
  | .ext (.rot .rlc (.reg .E)) => .rlc_E
  | .ext (.rot .rlc (.reg .H)) => .rlc_H
  | .ext (.rot .rlc (.reg .L)) => .rlc_L
  | .ext (.rot .rlc .mHL) => .rlc_mHL
  | .ext (.rot .rlc (.reg .A)) => .rlc_A
  | .ext (.rot .rrc (.reg .B)) => .rrc_B
  | .ext (.rot .rrc (.reg .C)) => .rrc_C
  | .ext (.rot .rrc (.reg .D)) => .rrc_D
  | .ext (.rot .rrc (.reg .E)) => .rrc_E
  | .ext (.rot .rrc (.reg .H)) => .rrc_H
  | .ext (.rot .rrc (.reg .L)) => .rrc_L
  | .ext (.rot .rrc .mHL) => .rrc_mHL
  | .ext (.rot .rrc (.reg .A)) => .rrc_A
  | .ext (.rot .rl (.reg .B)) => .rl_B
  | .ext (.rot .rl (.reg .C)) => .rl_C
  | .ext (.rot .rl (.reg .D)) => .rl_D
  | .ext (.rot .rl (.reg .E)) => .rl_E
  | .ext (.rot .rl (.reg .H)) => .rl_H
  | .ext (.rot .rl (.reg .L)) => .rl_L
  | .ext (.rot .rl .mHL) => .rl_mHL
  | .ext (.rot .rl (.reg .A)) => .rl_A
  | .ext (.rot .rr (.reg .B)) => .rr_B
  | .ext (.rot .rr (.reg .C)) => .rr_C
  | .ext (.rot .rr (.reg .D)) => .rr_D
  | .ext (.rot .rr (.reg .E)) => .rr_E
  | .ext (.rot .rr (.reg .H)) => .rr_H
  | .ext (.rot .rr (.reg .L)) => .rr_L
  | .ext (.rot .rr .mHL) => .rr_mHL
  | .ext (.rot .rr (.reg .A)) => .rr_A
  | .ext (.rot .sla (.reg .B)) => .sla_B
  | .ext (.rot .sla (.reg .C)) => .sla_C
  | .ext (.rot .sla (.reg .D)) => .sla_D
  | .ext (.rot .sla (.reg .E)) => .sla_E
  | .ext (.rot .sla (.reg .H)) => .sla_H
  | .ext (.rot .sla (.reg .L)) => .sla_L
  | .ext (.rot .sla .mHL) => .sla_mHL
  | .ext (.rot .sla (.reg .A)) => .sla_A
  | .ext (.rot .sra (.reg .B)) => .sra_B
  | .ext (.rot .sra (.reg .C)) => .sra_C
  | .ext (.rot .sra (.reg .D)) => .sra_D
  | .ext (.rot .sra (.reg .E)) => .sra_E
  | .ext (.rot .sra (.reg .H)) => .sra_H
  | .ext (.rot .sra (.reg .L)) => .sra_L
  | .ext (.rot .sra .mHL) => .sra_mHL
  | .ext (.rot .sra (.reg .A)) => .sra_A
  | .ext (.rot .swap (.reg .B)) => .swap_B
  | .ext (.rot .swap (.reg .C)) => .swap_C
  | .ext (.rot .swap (.reg .D)) => .swap_D
  | .ext (.rot .swap (.reg .E)) => .swap_E
  | .ext (.rot .swap (.reg .H)) => .swap_H
  | .ext (.rot .swap (.reg .L)) => .swap_L
  | .ext (.rot .swap .mHL) => .swap_mHL
  | .ext (.rot .swap (.reg .A)) => .swap_A
  | .ext (.rot .srl (.reg .B)) => .srl_B
  | .ext (.rot .srl (.reg .C)) => .srl_C
  | .ext (.rot .srl (.reg .D)) => .srl_D
  | .ext (.rot .srl (.reg .E)) => .srl_E
  | .ext (.rot .srl (.reg .H)) => .srl_H
  | .ext (.rot .srl (.reg .L)) => .srl_L
  | .ext (.rot .srl .mHL) => .srl_mHL
  | .ext (.rot .srl (.reg .A)) => .srl_A
  | .ext (.bit .o0 (.reg .B)) => .bit_0_B
  | .ext (.bit .o0 (.reg .C)) => .bit_0_C
  | .ext (.bit .o0 (.reg .D)) => .bit_0_D
  | .ext (.bit .o0 (.reg .E)) => .bit_0_E
  | .ext (.bit .o0 (.reg .H)) => .bit_0_H
  | .ext (.bit .o0 (.reg .L)) => .bit_0_L
  | .ext (.bit .o0 .mHL) => .bit_0_mHL
  | .ext (.bit .o0 (.reg .A)) => .bit_0_A
  | .ext (.bit .o1 (.reg .B)) => .bit_1_B
  | .ext (.bit .o1 (.reg .C)) => .bit_1_C
  | .ext (.bit .o1 (.reg .D)) => .bit_1_D
  | .ext (.bit .o1 (.reg .E)) => .bit_1_E
  | .ext (.bit .o1 (.reg .H)) => .bit_1_H
  | .ext (.bit .o1 (.reg .L)) => .bit_1_L
  | .ext (.bit .o1 .mHL) => .bit_1_mHL
  | .ext (.bit .o1 (.reg .A)) => .bit_1_A
  | .ext (.bit .o2 (.reg .B)) => .bit_2_B
  | .ext (.bit .o2 (.reg .C)) => .bit_2_C
  | .ext (.bit .o2 (.reg .D)) => .bit_2_D
  | .ext (.bit .o2 (.reg .E)) => .bit_2_E
  | .ext (.bit .o2 (.reg .H)) => .bit_2_H
  | .ext (.bit .o2 (.reg .L)) => .bit_2_L
  | .ext (.bit .o2 .mHL) => .bit_2_mHL
  | .ext (.bit .o2 (.reg .A)) => .bit_2_A
  | .ext (.bit .o3 (.reg .B)) => .bit_3_B
  | .ext (.bit .o3 (.reg .C)) => .bit_3_C
  | .ext (.bit .o3 (.reg .D)) => .bit_3_D
  | .ext (.bit .o3 (.reg .E)) => .bit_3_E
  | .ext (.bit .o3 (.reg .H)) => .bit_3_H
  | .ext (.bit .o3 (.reg .L)) => .bit_3_L
  | .ext (.bit .o3 .mHL) => .bit_3_mHL
  | .ext (.bit .o3 (.reg .A)) => .bit_3_A
  | .ext (.bit .o4 (.reg .B)) => .bit_4_B
  | .ext (.bit .o4 (.reg .C)) => .bit_4_C
  | .ext (.bit .o4 (.reg .D)) => .bit_4_D
  | .ext (.bit .o4 (.reg .E)) => .bit_4_E
  | .ext (.bit .o4 (.reg .H)) => .bit_4_H
  | .ext (.bit .o4 (.reg .L)) => .bit_4_L
  | .ext (.bit .o4 .mHL) => .bit_4_mHL
  | .ext (.bit .o4 (.reg .A)) => .bit_4_A
  | .ext (.bit .o5 (.reg .B)) => .bit_5_B
  | .ext (.bit .o5 (.reg .C)) => .bit_5_C
  | .ext (.bit .o5 (.reg .D)) => .bit_5_D
  | .ext (.bit .o5 (.reg .E)) => .bit_5_E
  | .ext (.bit .o5 (.reg .H)) => .bit_5_H
  | .ext (.bit .o5 (.reg .L)) => .bit_5_L
  | .ext (.bit .o5 .mHL) => .bit_5_mHL
  | .ext (.bit .o5 (.reg .A)) => .bit_5_A
  | .ext (.bit .o6 (.reg .B)) => .bit_6_B
  | .ext (.bit .o6 (.reg .C)) => .bit_6_C
  | .ext (.bit .o6 (.reg .D)) => .bit_6_D
  | .ext (.bit .o6 (.reg .E)) => .bit_6_E
  | .ext (.bit .o6 (.reg .H)) => .bit_6_H
  | .ext (.bit .o6 (.reg .L)) => .bit_6_L
  | .ext (.bit .o6 .mHL) => .bit_6_mHL
  | .ext (.bit .o6 (.reg .A)) => .bit_6_A
  | .ext (.bit .o7 (.reg .B)) => .bit_7_B
  | .ext (.bit .o7 (.reg .C)) => .bit_7_C
  | .ext (.bit .o7 (.reg .D)) => .bit_7_D
  | .ext (.bit .o7 (.reg .E)) => .bit_7_E
  | .ext (.bit .o7 (.reg .H)) => .bit_7_H
  | .ext (.bit .o7 (.reg .L)) => .bit_7_L
  | .ext (.bit .o7 .mHL) => .bit_7_mHL
  | .ext (.bit .o7 (.reg .A)) => .bit_7_A
  | .ext (.res .o0 (.reg .B)) => .res_0_B
  | .ext (.res .o0 (.reg .C)) => .res_0_C
  | .ext (.res .o0 (.reg .D)) => .res_0_D
  | .ext (.res .o0 (.reg .E)) => .res_0_E
  | .ext (.res .o0 (.reg .H)) => .res_0_H
  | .ext (.res .o0 (.reg .L)) => .res_0_L
  | .ext (.res .o0 .mHL) => .res_0_mHL
  | .ext (.res .o0 (.reg .A)) => .res_0_A
  | .ext (.res .o1 (.reg .B)) => .res_1_B
  | .ext (.res .o1 (.reg .C)) => .res_1_C
  | .ext (.res .o1 (.reg .D)) => .res_1_D
  | .ext (.res .o1 (.reg .E)) => .res_1_E
  | .ext (.res .o1 (.reg .H)) => .res_1_H
  | .ext (.res .o1 (.reg .L)) => .res_1_L
  | .ext (.res .o1 .mHL) => .res_1_mHL
  | .ext (.res .o1 (.reg .A)) => .res_1_A
  | .ext (.res .o2 (.reg .B)) => .res_2_B
  | .ext (.res .o2 (.reg .C)) => .res_2_C
  | .ext (.res .o2 (.reg .D)) => .res_2_D
  | .ext (.res .o2 (.reg .E)) => .res_2_E
  | .ext (.res .o2 (.reg .H)) => .res_2_H
  | .ext (.res .o2 (.reg .L)) => .res_2_L
  | .ext (.res .o2 .mHL) => .res_2_mHL
  | .ext (.res .o2 (.reg .A)) => .res_2_A
  | .ext (.res .o3 (.reg .B)) => .res_3_B
  | .ext (.res .o3 (.reg .C)) => .res_3_C
  | .ext (.res .o3 (.reg .D)) => .res_3_D
  | .ext (.res .o3 (.reg .E)) => .res_3_E
  | .ext (.res .o3 (.reg .H)) => .res_3_H
  | .ext (.res .o3 (.reg .L)) => .res_3_L
  | .ext (.res .o3 .mHL) => .res_3_mHL
  | .ext (.res .o3 (.reg .A)) => .res_3_A
  | .ext (.res .o4 (.reg .B)) => .res_4_B
  | .ext (.res .o4 (.reg .C)) => .res_4_C
  | .ext (.res .o4 (.reg .D)) => .res_4_D
  | .ext (.res .o4 (.reg .E)) => .res_4_E
  | .ext (.res .o4 (.reg .H)) => .res_4_H
  | .ext (.res .o4 (.reg .L)) => .res_4_L
  | .ext (.res .o4 .mHL) => .res_4_mHL
  | .ext (.res .o4 (.reg .A)) => .res_4_A
  | .ext (.res .o5 (.reg .B)) => .res_5_B
  | .ext (.res .o5 (.reg .C)) => .res_5_C
  | .ext (.res .o5 (.reg .D)) => .res_5_D
  | .ext (.res .o5 (.reg .E)) => .res_5_E
  | .ext (.res .o5 (.reg .H)) => .res_5_H
  | .ext (.res .o5 (.reg .L)) => .res_5_L
  | .ext (.res .o5 .mHL) => .res_5_mHL
  | .ext (.res .o5 (.reg .A)) => .res_5_A
  | .ext (.res .o6 (.reg .B)) => .res_6_B
  | .ext (.res .o6 (.reg .C)) => .res_6_C
  | .ext (.res .o6 (.reg .D)) => .res_6_D
  | .ext (.res .o6 (.reg .E)) => .res_6_E
  | .ext (.res .o6 (.reg .H)) => .res_6_H
  | .ext (.res .o6 (.reg .L)) => .res_6_L
  | .ext (.res .o6 .mHL) => .res_6_mHL
  | .ext (.res .o6 (.reg .A)) => .res_6_A
  | .ext (.res .o7 (.reg .B)) => .res_7_B
  | .ext (.res .o7 (.reg .C)) => .res_7_C
  | .ext (.res .o7 (.reg .D)) => .res_7_D
  | .ext (.res .o7 (.reg .E)) => .res_7_E
  | .ext (.res .o7 (.reg .H)) => .res_7_H
  | .ext (.res .o7 (.reg .L)) => .res_7_L
  | .ext (.res .o7 .mHL) => .res_7_mHL
  | .ext (.res .o7 (.reg .A)) => .res_7_A
  | .ext (.set .o0 (.reg .B)) => .set_0_B
  | .ext (.set .o0 (.reg .C)) => .set_0_C
  | .ext (.set .o0 (.reg .D)) => .set_0_D
  | .ext (.set .o0 (.reg .E)) => .set_0_E
  | .ext (.set .o0 (.reg .H)) => .set_0_H
  | .ext (.set .o0 (.reg .L)) => .set_0_L
  | .ext (.set .o0 .mHL) => .set_0_mHL
  | .ext (.set .o0 (.reg .A)) => .set_0_A
  | .ext (.set .o1 (.reg .B)) => .set_1_B
  | .ext (.set .o1 (.reg .C)) => .set_1_C
  | .ext (.set .o1 (.reg .D)) => .set_1_D
  | .ext (.set .o1 (.reg .E)) => .set_1_E
  | .ext (.set .o1 (.reg .H)) => .set_1_H
  | .ext (.set .o1 (.reg .L)) => .set_1_L
  | .ext (.set .o1 .mHL) => .set_1_mHL
  | .ext (.set .o1 (.reg .A)) => .set_1_A
  | .ext (.set .o2 (.reg .B)) => .set_2_B
  | .ext (.set .o2 (.reg .C)) => .set_2_C
  | .ext (.set .o2 (.reg .D)) => .set_2_D
  | .ext (.set .o2 (.reg .E)) => .set_2_E
  | .ext (.set .o2 (.reg .H)) => .set_2_H
  | .ext (.set .o2 (.reg .L)) => .set_2_L
  | .ext (.set .o2 .mHL) => .set_2_mHL
  | .ext (.set .o2 (.reg .A)) => .set_2_A
  | .ext (.set .o3 (.reg .B)) => .set_3_B
  | .ext (.set .o3 (.reg .C)) => .set_3_C
  | .ext (.set .o3 (.reg .D)) => .set_3_D
  | .ext (.set .o3 (.reg .E)) => .set_3_E
  | .ext (.set .o3 (.reg .H)) => .set_3_H
  | .ext (.set .o3 (.reg .L)) => .set_3_L
  | .ext (.set .o3 .mHL) => .set_3_mHL
  | .ext (.set .o3 (.reg .A)) => .set_3_A
  | .ext (.set .o4 (.reg .B)) => .set_4_B
  | .ext (.set .o4 (.reg .C)) => .set_4_C
  | .ext (.set .o4 (.reg .D)) => .set_4_D
  | .ext (.set .o4 (.reg .E)) => .set_4_E
  | .ext (.set .o4 (.reg .H)) => .set_4_H
  | .ext (.set .o4 (.reg .L)) => .set_4_L
  | .ext (.set .o4 .mHL) => .set_4_mHL
  | .ext (.set .o4 (.reg .A)) => .set_4_A
  | .ext (.set .o5 (.reg .B)) => .set_5_B
  | .ext (.set .o5 (.reg .C)) => .set_5_C
  | .ext (.set .o5 (.reg .D)) => .set_5_D
  | .ext (.set .o5 (.reg .E)) => .set_5_E
  | .ext (.set .o5 (.reg .H)) => .set_5_H
  | .ext (.set .o5 (.reg .L)) => .set_5_L
  | .ext (.set .o5 .mHL) => .set_5_mHL
  | .ext (.set .o5 (.reg .A)) => .set_5_A
  | .ext (.set .o6 (.reg .B)) => .set_6_B
  | .ext (.set .o6 (.reg .C)) => .set_6_C
  | .ext (.set .o6 (.reg .D)) => .set_6_D
  | .ext (.set .o6 (.reg .E)) => .set_6_E
  | .ext (.set .o6 (.reg .H)) => .set_6_H
  | .ext (.set .o6 (.reg .L)) => .set_6_L
  | .ext (.set .o6 .mHL) => .set_6_mHL
  | .ext (.set .o6 (.reg .A)) => .set_6_A
  | .ext (.set .o7 (.reg .B)) => .set_7_B
  | .ext (.set .o7 (.reg .C)) => .set_7_C
  | .ext (.set .o7 (.reg .D)) => .set_7_D
  | .ext (.set .o7 (.reg .E)) => .set_7_E
  | .ext (.set .o7 (.reg .H)) => .set_7_H
  | .ext (.set .o7 (.reg .L)) => .set_7_L
  | .ext (.set .o7 .mHL) => .set_7_mHL
  | .ext (.set .o7 (.reg .A)) => .set_7_A
/-! ### The fields of an opcode byte (R93) -/

/-- `x = op[7:6]`. -/
def fieldX (op : Byte) : Nat := op.toNat / 64
/-- `y = op[5:3]`. -/
def fieldY (op : Byte) : Oct := Oct.ofField (op.toNat / 8)
/-- `z = op[2:0]`. -/
def fieldZ (op : Byte) : Oct := Oct.ofField op.toNat

/-- `rp[p]` with p = y[2:1] (R95). -/
def pairOf : Oct → Pair
  | .o0 | .o1 => .BC | .o2 | .o3 => .DE | .o4 | .o5 => .HL | .o6 | .o7 => .SP

/-- `rp2[p]` with p = y[2:1] (R95). -/
def stackPairOf : Oct → StackPair
  | .o0 | .o1 => .BC | .o2 | .o3 => .DE | .o4 | .o5 => .HL | .o6 | .o7 => .AF

/-- `cc` from y[1:0] (R96). -/
def condOf : Oct → Cond
  | .o0 | .o4 => .NZ | .o1 | .o5 => .Z | .o2 | .o6 => .NC | .o3 | .o7 => .C

/-- `alu[y]` (R98). -/
def aluOf : Oct → AluOp
  | .o0 => .add | .o1 => .adc | .o2 => .sub | .o3 => .sbc
  | .o4 => .and | .o5 => .xor | .o6 => .or | .o7 => .cp

/-- `rot[y]` (R99). -/
def rotOf : Oct → RotOp
  | .o0 => .rlc | .o1 => .rrc | .o2 => .rl | .o3 => .rr
  | .o4 => .sla | .o5 => .sra | .o6 => .swap | .o7 => .srl

/-! ### The tables -/

/-- A slot of the primary table: the format of R91 with the instruction its immediates complete. -/
inductive Slot where
  /-- OP: no immediate. -/
  | op (f : Form)
  /-- OP_N and OP_D: one immediate byte. -/
  | opN (k : Byte → Form)
  /-- OP_NN: two immediate bytes, the low one first (R97). -/
  | opNN (k : Word → Form)
  /-- OP_PAD: padding that is read and ignored (R105). -/
  | pad (f : Form)
  /-- ESC: the extended byte follows. -/
  | esc
  /-- INV: an empty slot. -/
  | inv

/-- The bytes an instruction of a slot has (R91, R92). -/
def Slot.length : Slot → Nat
  | .op _ => 1 | .opN _ => 2 | .opNN _ => 3 | .pad _ => Config.stopLength | .esc => 2 | .inv => 1

/-- The field map of the primary table, block x = 0 (R101). -/
def slotX0 (y z : Oct) : Slot :=
  match z with
  | .o0 => match y with
    | .o0 => .op .nop
    | .o1 => .opNN .ldAbsSP
    | .o2 => .pad .stop
    | .o3 => .opN .jr
    | y => .opN (.jrCond (condOf y))
  | .o1 => match y with
    | .o0 | .o2 | .o4 | .o6 => .opNN (.ldPairImm (pairOf y))
    | y => .op (.addHL (pairOf y))
  | .o2 => match y with
    | .o0 => .op (.ldPtrA .BC)
    | .o1 => .op (.ldAPtr .BC)
    | .o2 => .op (.ldPtrA .DE)
    | .o3 => .op (.ldAPtr .DE)
    | .o4 => .op .ldIncA
    | .o5 => .op .ldAInc
    | .o6 => .op .ldDecA
    | .o7 => .op .ldADec
  | .o3 => match y with
    | .o0 | .o2 | .o4 | .o6 => .op (.incPair (pairOf y))
    | y => .op (.decPair (pairOf y))
  | .o4 => .op (.inc8 (Config.operandOrder y))
  | .o5 => .op (.dec8 (Config.operandOrder y))
  | .o6 => match Config.operandOrder y with
    | .reg r => .opN (.ldRegImm r)
    | .mHL => .opN .ldMemImm
  | .o7 => match y with
    | .o0 => .op (.accRot .rlca)
    | .o1 => .op (.accRot .rrca)
    | .o2 => .op (.accRot .rla)
    | .o3 => .op (.accRot .rra)
    | .o4 => .op .daa
    | .o5 => .op .cpl
    | .o6 => .op .scf
    | .o7 => .op .ccf

/-- Block x = 1: the loads between operands, and HALT where both fields say (HL) (R101). -/
def slotX1 (y z : Oct) : Slot :=
  match Config.operandOrder y, Config.operandOrder z with
  | .reg d, .reg r => .op (.ldRegReg d r)
  | .reg d, .mHL => .op (.ldRegMem d)
  | .mHL, .reg r => .op (.ldMemReg r)
  | .mHL, .mHL => .op .halt

/-- Block x = 3 (R101); the slots it leaves empty are bytes of INVALID_PRIMARY. -/
def slotX3 (y z : Oct) : Slot :=
  match z with
  | .o0 => match y with
    | .o4 => .opN .ldhImmA
    | .o5 => .opN .addSP
    | .o6 => .opN .ldhAImm
    | .o7 => .opN .ldHLSP
    | y => .op (.retCond (condOf y))
  | .o1 => match y with
    | .o1 => .op .ret
    | .o3 => .op .reti
    | .o5 => .op .jpHL
    | .o7 => .op .ldSPHL
    | y => .op (.pop (stackPairOf y))
  | .o2 => match y with
    | .o4 => .op .ldIoCA
    | .o5 => .opNN .ldAbsA
    | .o6 => .op .ldAIoC
    | .o7 => .opNN .ldAAbs
    | y => .opNN (.jpCond (condOf y))
  | .o3 => match y with
    | .o0 => .opNN .jp
    | .o6 => .op .di
    | .o7 => .op .ei
    | _ => .inv
  | .o4 => match y with
    | .o0 | .o1 | .o2 | .o3 => .opNN (.callCond (condOf y))
    | _ => .inv
  | .o5 => match y with
    | .o0 | .o2 | .o4 | .o6 => .op (.push (stackPairOf y))
    | .o1 => .opNN .call
    | _ => .inv
  | .o6 => .opN (.aluImm (aluOf y))
  | .o7 => .op (.rst y)

/-- PRIMARY_MAP: the slot of a byte. The empty slots and the escape are the parameters of R6 (R102, R105). -/
def primarySlot (op : Byte) : Slot :=
  if op ∈ Config.invalidPrimary ∨ op ∈ Config.unimplPrimary then .inv
  else if op = Config.escapeOpcode then .esc
  else match fieldX op with
    | 0 => slotX0 (fieldY op) (fieldZ op)
    | 1 => slotX1 (fieldY op) (fieldZ op)
    | 2 => .op (.alu (aluOf (fieldY op)) (Config.operandOrder (fieldZ op)))
    | _ => slotX3 (fieldY op) (fieldZ op)

/-- EXTENDED_MAP: the extended instruction of the byte after the escape (R106). -/
def extendedForm (e : Byte) : ExtForm :=
  match fieldX e with
  | 0 => .rot (rotOf (fieldY e)) (Config.extOperandOrder (fieldZ e))
  | 1 => .bit (fieldY e) (Config.extOperandOrder (fieldZ e))
  | 2 => .res (fieldY e) (Config.extOperandOrder (fieldZ e))
  | _ => .set (fieldY e) (Config.extOperandOrder (fieldZ e))

/-- The instruction a byte after the escape stands for: its row of the extended table, or, where the
implementation has not supplied that row, the escape with the byte it cannot dispatch (R322, R331). -/
def extendedInstr (e : Byte) : Instr :=
  if e ∈ Config.unimplExtended then .escape e else (Form.ext (extendedForm e)).toInstr

/-! ### The decoder -/

/-- Why bytes are no instruction. -/
inductive DecodeError where
  /-- There is no byte at all. -/
  | noBytes
  /-- The first byte asks for more bytes than there are (R92). -/
  | truncated
deriving DecidableEq, Repr

/-- The instruction at the head of a list of bytes, and the bytes after it (R90 to R106). A byte of an empty
slot is the instruction `invalid` (R102). -/
def decode : List Byte → Except DecodeError (Instr × List Byte)
  | [] => .error .noBytes
  | op :: rest =>
    match primarySlot op, rest with
    | .inv, rest => .ok (.invalid op, rest)
    | .op f, rest => .ok (f.toInstr, rest)
    | .opN k, n :: rest => .ok ((k n).toInstr, rest)
    | .opNN k, l :: h :: rest => .ok ((k (joinBytes h l)).toInstr, rest)
    | .esc, e :: rest => .ok (extendedInstr e, rest)
    | .pad f, rest =>
      if Config.stopLength - 1 ≤ rest.length then .ok (f.toInstr, rest.drop (Config.stopLength - 1))
      else .error .truncated
    | _, _ => .error .truncated

/-- The bytes of a word of spec/opcode_table.json, at ascending addresses, three of them (the longest
instruction). A primary row numbers its bits from byte 0 up; an extended row is the number `byte0 ‖ byte1`
(R91), so a word whose bits 15..8 are the escape byte has its first byte there (log 5). -/
def tableWordBytes (nbits w : Nat) : List Byte :=
  if 16 ≤ nbits ∧ BitVec.ofNat 8 (w / 256) = Config.escapeOpcode then
    [BitVec.ofNat 8 (w / 256), BitVec.ofNat 8 w, 0]
  else
    let v := w % 2 ^ nbits
    [BitVec.ofNat 8 v, BitVec.ofNat 8 (v / 256), BitVec.ofNat 8 (v / 65536)]

/-- The instruction the decoder reads from a word of the opcode table. -/
def decodeTableWord (nbits w : Nat) : Option Instr :=
  match decode (tableWordBytes nbits w) with
  | .ok (i, _) => some i
  | .error _ => none

/-! ### The encoder -/

/-- The bytes of an instruction, at ascending addresses, from the maps of R101 and R106. STOP's padding is
0x00, the byte R393 asks software to place there. -/
def encode : Instr → List Byte
  | .nop => [0x00]
  | .ld_BC_nn nn => [0x01, loByte nn, hiByte nn]
  | .ld_mBC_A => [0x02]
  | .inc_BC => [0x03]
  | .inc_B => [0x04]
  | .dec_B => [0x05]
  | .ld_B_n n => [0x06, n]
  | .rlca => [0x07]
  | .ld_mnn_SP nn => [0x08, loByte nn, hiByte nn]
  | .add_HL_BC => [0x09]
  | .ld_A_mBC => [0x0A]
  | .dec_BC => [0x0B]
  | .inc_C => [0x0C]
  | .dec_C => [0x0D]
  | .ld_C_n n => [0x0E, n]
  | .rrca => [0x0F]
  | .stop => 0x10 :: List.replicate (Config.stopLength - 1) 0x00
  | .ld_DE_nn nn => [0x11, loByte nn, hiByte nn]
  | .ld_mDE_A => [0x12]
  | .inc_DE => [0x13]
  | .inc_D => [0x14]
  | .dec_D => [0x15]
  | .ld_D_n n => [0x16, n]
  | .rla => [0x17]
  | .jr_d d => [0x18, d]
  | .add_HL_DE => [0x19]
  | .ld_A_mDE => [0x1A]
  | .dec_DE => [0x1B]
  | .inc_E => [0x1C]
  | .dec_E => [0x1D]
  | .ld_E_n n => [0x1E, n]
  | .rra => [0x1F]
  | .jr_NZ_d d => [0x20, d]
  | .ld_HL_nn nn => [0x21, loByte nn, hiByte nn]
  | .ld_mHLI_A => [0x22]
  | .inc_HL => [0x23]
  | .inc_H => [0x24]
  | .dec_H => [0x25]
  | .ld_H_n n => [0x26, n]
  | .daa => [0x27]
  | .jr_Z_d d => [0x28, d]
  | .add_HL_HL => [0x29]
  | .ld_A_mHLI => [0x2A]
  | .dec_HL => [0x2B]
  | .inc_L => [0x2C]
  | .dec_L => [0x2D]
  | .ld_L_n n => [0x2E, n]
  | .cpl => [0x2F]
  | .jr_NC_d d => [0x30, d]
  | .ld_SP_nn nn => [0x31, loByte nn, hiByte nn]
  | .ld_mHLD_A => [0x32]
  | .inc_SP => [0x33]
  | .inc_mHL => [0x34]
  | .dec_mHL => [0x35]
  | .ld_mHL_n n => [0x36, n]
  | .scf => [0x37]
  | .jr_C_d d => [0x38, d]
  | .add_HL_SP => [0x39]
  | .ld_A_mHLD => [0x3A]
  | .dec_SP => [0x3B]
  | .inc_A => [0x3C]
  | .dec_A => [0x3D]
  | .ld_A_n n => [0x3E, n]
  | .ccf => [0x3F]
  | .ld_B_B => [0x40]
  | .ld_B_C => [0x41]
  | .ld_B_D => [0x42]
  | .ld_B_E => [0x43]
  | .ld_B_H => [0x44]
  | .ld_B_L => [0x45]
  | .ld_B_mHL => [0x46]
  | .ld_B_A => [0x47]
  | .ld_C_B => [0x48]
  | .ld_C_C => [0x49]
  | .ld_C_D => [0x4A]
  | .ld_C_E => [0x4B]
  | .ld_C_H => [0x4C]
  | .ld_C_L => [0x4D]
  | .ld_C_mHL => [0x4E]
  | .ld_C_A => [0x4F]
  | .ld_D_B => [0x50]
  | .ld_D_C => [0x51]
  | .ld_D_D => [0x52]
  | .ld_D_E => [0x53]
  | .ld_D_H => [0x54]
  | .ld_D_L => [0x55]
  | .ld_D_mHL => [0x56]
  | .ld_D_A => [0x57]
  | .ld_E_B => [0x58]
  | .ld_E_C => [0x59]
  | .ld_E_D => [0x5A]
  | .ld_E_E => [0x5B]
  | .ld_E_H => [0x5C]
  | .ld_E_L => [0x5D]
  | .ld_E_mHL => [0x5E]
  | .ld_E_A => [0x5F]
  | .ld_H_B => [0x60]
  | .ld_H_C => [0x61]
  | .ld_H_D => [0x62]
  | .ld_H_E => [0x63]
  | .ld_H_H => [0x64]
  | .ld_H_L => [0x65]
  | .ld_H_mHL => [0x66]
  | .ld_H_A => [0x67]
  | .ld_L_B => [0x68]
  | .ld_L_C => [0x69]
  | .ld_L_D => [0x6A]
  | .ld_L_E => [0x6B]
  | .ld_L_H => [0x6C]
  | .ld_L_L => [0x6D]
  | .ld_L_mHL => [0x6E]
  | .ld_L_A => [0x6F]
  | .ld_mHL_B => [0x70]
  | .ld_mHL_C => [0x71]
  | .ld_mHL_D => [0x72]
  | .ld_mHL_E => [0x73]
  | .ld_mHL_H => [0x74]
  | .ld_mHL_L => [0x75]
  | .halt => [0x76]
  | .ld_mHL_A => [0x77]
  | .ld_A_B => [0x78]
  | .ld_A_C => [0x79]
  | .ld_A_D => [0x7A]
  | .ld_A_E => [0x7B]
  | .ld_A_H => [0x7C]
  | .ld_A_L => [0x7D]
  | .ld_A_mHL => [0x7E]
  | .ld_A_A => [0x7F]
  | .add_A_B => [0x80]
  | .add_A_C => [0x81]
  | .add_A_D => [0x82]
  | .add_A_E => [0x83]
  | .add_A_H => [0x84]
  | .add_A_L => [0x85]
  | .add_A_mHL => [0x86]
  | .add_A_A => [0x87]
  | .adc_A_B => [0x88]
  | .adc_A_C => [0x89]
  | .adc_A_D => [0x8A]
  | .adc_A_E => [0x8B]
  | .adc_A_H => [0x8C]
  | .adc_A_L => [0x8D]
  | .adc_A_mHL => [0x8E]
  | .adc_A_A => [0x8F]
  | .sub_B => [0x90]
  | .sub_C => [0x91]
  | .sub_D => [0x92]
  | .sub_E => [0x93]
  | .sub_H => [0x94]
  | .sub_L => [0x95]
  | .sub_mHL => [0x96]
  | .sub_A => [0x97]
  | .sbc_A_B => [0x98]
  | .sbc_A_C => [0x99]
  | .sbc_A_D => [0x9A]
  | .sbc_A_E => [0x9B]
  | .sbc_A_H => [0x9C]
  | .sbc_A_L => [0x9D]
  | .sbc_A_mHL => [0x9E]
  | .sbc_A_A => [0x9F]
  | .and_B => [0xA0]
  | .and_C => [0xA1]
  | .and_D => [0xA2]
  | .and_E => [0xA3]
  | .and_H => [0xA4]
  | .and_L => [0xA5]
  | .and_mHL => [0xA6]
  | .and_A => [0xA7]
  | .xor_B => [0xA8]
  | .xor_C => [0xA9]
  | .xor_D => [0xAA]
  | .xor_E => [0xAB]
  | .xor_H => [0xAC]
  | .xor_L => [0xAD]
  | .xor_mHL => [0xAE]
  | .xor_A => [0xAF]
  | .or_B => [0xB0]
  | .or_C => [0xB1]
  | .or_D => [0xB2]
  | .or_E => [0xB3]
  | .or_H => [0xB4]
  | .or_L => [0xB5]
  | .or_mHL => [0xB6]
  | .or_A => [0xB7]
  | .cp_B => [0xB8]
  | .cp_C => [0xB9]
  | .cp_D => [0xBA]
  | .cp_E => [0xBB]
  | .cp_H => [0xBC]
  | .cp_L => [0xBD]
  | .cp_mHL => [0xBE]
  | .cp_A => [0xBF]
  | .ret_NZ => [0xC0]
  | .pop_BC => [0xC1]
  | .jp_NZ_nn nn => [0xC2, loByte nn, hiByte nn]
  | .jp_nn nn => [0xC3, loByte nn, hiByte nn]
  | .call_NZ_nn nn => [0xC4, loByte nn, hiByte nn]
  | .push_BC => [0xC5]
  | .add_A_n n => [0xC6, n]
  | .rst_00 => [0xC7]
  | .ret_Z => [0xC8]
  | .ret => [0xC9]
  | .jp_Z_nn nn => [0xCA, loByte nn, hiByte nn]
  | .escape e => [Config.escapeOpcode, e]
  | .call_Z_nn nn => [0xCC, loByte nn, hiByte nn]
  | .call_nn nn => [0xCD, loByte nn, hiByte nn]
  | .adc_A_n n => [0xCE, n]
  | .rst_08 => [0xCF]
  | .ret_NC => [0xD0]
  | .pop_DE => [0xD1]
  | .jp_NC_nn nn => [0xD2, loByte nn, hiByte nn]
  | .invalid op => [op]
  | .call_NC_nn nn => [0xD4, loByte nn, hiByte nn]
  | .push_DE => [0xD5]
  | .sub_n n => [0xD6, n]
  | .rst_10 => [0xD7]
  | .ret_C => [0xD8]
  | .reti => [0xD9]
  | .jp_C_nn nn => [0xDA, loByte nn, hiByte nn]
  | .call_C_nn nn => [0xDC, loByte nn, hiByte nn]
  | .sbc_A_n n => [0xDE, n]
  | .rst_18 => [0xDF]
  | .ldh_mn_A n => [0xE0, n]
  | .pop_HL => [0xE1]
  | .ld_mC_A => [0xE2]
  | .push_HL => [0xE5]
  | .and_n n => [0xE6, n]
  | .rst_20 => [0xE7]
  | .add_SP_d d => [0xE8, d]
  | .jp_mHL => [0xE9]
  | .ld_mnn_A nn => [0xEA, loByte nn, hiByte nn]
  | .xor_n n => [0xEE, n]
  | .rst_28 => [0xEF]
  | .ldh_A_mn n => [0xF0, n]
  | .pop_AF => [0xF1]
  | .ld_A_mC => [0xF2]
  | .di => [0xF3]
  | .push_AF => [0xF5]
  | .or_n n => [0xF6, n]
  | .rst_30 => [0xF7]
  | .ld_HL_SPd d => [0xF8, d]
  | .ld_SP_HL => [0xF9]
  | .ld_A_mnn nn => [0xFA, loByte nn, hiByte nn]
  | .ei => [0xFB]
  | .cp_n n => [0xFE, n]
  | .rst_38 => [0xFF]
  | .rlc_B => [Config.escapeOpcode, 0x00]
  | .rlc_C => [Config.escapeOpcode, 0x01]
  | .rlc_D => [Config.escapeOpcode, 0x02]
  | .rlc_E => [Config.escapeOpcode, 0x03]
  | .rlc_H => [Config.escapeOpcode, 0x04]
  | .rlc_L => [Config.escapeOpcode, 0x05]
  | .rlc_mHL => [Config.escapeOpcode, 0x06]
  | .rlc_A => [Config.escapeOpcode, 0x07]
  | .rrc_B => [Config.escapeOpcode, 0x08]
  | .rrc_C => [Config.escapeOpcode, 0x09]
  | .rrc_D => [Config.escapeOpcode, 0x0A]
  | .rrc_E => [Config.escapeOpcode, 0x0B]
  | .rrc_H => [Config.escapeOpcode, 0x0C]
  | .rrc_L => [Config.escapeOpcode, 0x0D]
  | .rrc_mHL => [Config.escapeOpcode, 0x0E]
  | .rrc_A => [Config.escapeOpcode, 0x0F]
  | .rl_B => [Config.escapeOpcode, 0x10]
  | .rl_C => [Config.escapeOpcode, 0x11]
  | .rl_D => [Config.escapeOpcode, 0x12]
  | .rl_E => [Config.escapeOpcode, 0x13]
  | .rl_H => [Config.escapeOpcode, 0x14]
  | .rl_L => [Config.escapeOpcode, 0x15]
  | .rl_mHL => [Config.escapeOpcode, 0x16]
  | .rl_A => [Config.escapeOpcode, 0x17]
  | .rr_B => [Config.escapeOpcode, 0x18]
  | .rr_C => [Config.escapeOpcode, 0x19]
  | .rr_D => [Config.escapeOpcode, 0x1A]
  | .rr_E => [Config.escapeOpcode, 0x1B]
  | .rr_H => [Config.escapeOpcode, 0x1C]
  | .rr_L => [Config.escapeOpcode, 0x1D]
  | .rr_mHL => [Config.escapeOpcode, 0x1E]
  | .rr_A => [Config.escapeOpcode, 0x1F]
  | .sla_B => [Config.escapeOpcode, 0x20]
  | .sla_C => [Config.escapeOpcode, 0x21]
  | .sla_D => [Config.escapeOpcode, 0x22]
  | .sla_E => [Config.escapeOpcode, 0x23]
  | .sla_H => [Config.escapeOpcode, 0x24]
  | .sla_L => [Config.escapeOpcode, 0x25]
  | .sla_mHL => [Config.escapeOpcode, 0x26]
  | .sla_A => [Config.escapeOpcode, 0x27]
  | .sra_B => [Config.escapeOpcode, 0x28]
  | .sra_C => [Config.escapeOpcode, 0x29]
  | .sra_D => [Config.escapeOpcode, 0x2A]
  | .sra_E => [Config.escapeOpcode, 0x2B]
  | .sra_H => [Config.escapeOpcode, 0x2C]
  | .sra_L => [Config.escapeOpcode, 0x2D]
  | .sra_mHL => [Config.escapeOpcode, 0x2E]
  | .sra_A => [Config.escapeOpcode, 0x2F]
  | .swap_B => [Config.escapeOpcode, 0x30]
  | .swap_C => [Config.escapeOpcode, 0x31]
  | .swap_D => [Config.escapeOpcode, 0x32]
  | .swap_E => [Config.escapeOpcode, 0x33]
  | .swap_H => [Config.escapeOpcode, 0x34]
  | .swap_L => [Config.escapeOpcode, 0x35]
  | .swap_mHL => [Config.escapeOpcode, 0x36]
  | .swap_A => [Config.escapeOpcode, 0x37]
  | .srl_B => [Config.escapeOpcode, 0x38]
  | .srl_C => [Config.escapeOpcode, 0x39]
  | .srl_D => [Config.escapeOpcode, 0x3A]
  | .srl_E => [Config.escapeOpcode, 0x3B]
  | .srl_H => [Config.escapeOpcode, 0x3C]
  | .srl_L => [Config.escapeOpcode, 0x3D]
  | .srl_mHL => [Config.escapeOpcode, 0x3E]
  | .srl_A => [Config.escapeOpcode, 0x3F]
  | .bit_0_B => [Config.escapeOpcode, 0x40]
  | .bit_0_C => [Config.escapeOpcode, 0x41]
  | .bit_0_D => [Config.escapeOpcode, 0x42]
  | .bit_0_E => [Config.escapeOpcode, 0x43]
  | .bit_0_H => [Config.escapeOpcode, 0x44]
  | .bit_0_L => [Config.escapeOpcode, 0x45]
  | .bit_0_mHL => [Config.escapeOpcode, 0x46]
  | .bit_0_A => [Config.escapeOpcode, 0x47]
  | .bit_1_B => [Config.escapeOpcode, 0x48]
  | .bit_1_C => [Config.escapeOpcode, 0x49]
  | .bit_1_D => [Config.escapeOpcode, 0x4A]
  | .bit_1_E => [Config.escapeOpcode, 0x4B]
  | .bit_1_H => [Config.escapeOpcode, 0x4C]
  | .bit_1_L => [Config.escapeOpcode, 0x4D]
  | .bit_1_mHL => [Config.escapeOpcode, 0x4E]
  | .bit_1_A => [Config.escapeOpcode, 0x4F]
  | .bit_2_B => [Config.escapeOpcode, 0x50]
  | .bit_2_C => [Config.escapeOpcode, 0x51]
  | .bit_2_D => [Config.escapeOpcode, 0x52]
  | .bit_2_E => [Config.escapeOpcode, 0x53]
  | .bit_2_H => [Config.escapeOpcode, 0x54]
  | .bit_2_L => [Config.escapeOpcode, 0x55]
  | .bit_2_mHL => [Config.escapeOpcode, 0x56]
  | .bit_2_A => [Config.escapeOpcode, 0x57]
  | .bit_3_B => [Config.escapeOpcode, 0x58]
  | .bit_3_C => [Config.escapeOpcode, 0x59]
  | .bit_3_D => [Config.escapeOpcode, 0x5A]
  | .bit_3_E => [Config.escapeOpcode, 0x5B]
  | .bit_3_H => [Config.escapeOpcode, 0x5C]
  | .bit_3_L => [Config.escapeOpcode, 0x5D]
  | .bit_3_mHL => [Config.escapeOpcode, 0x5E]
  | .bit_3_A => [Config.escapeOpcode, 0x5F]
  | .bit_4_B => [Config.escapeOpcode, 0x60]
  | .bit_4_C => [Config.escapeOpcode, 0x61]
  | .bit_4_D => [Config.escapeOpcode, 0x62]
  | .bit_4_E => [Config.escapeOpcode, 0x63]
  | .bit_4_H => [Config.escapeOpcode, 0x64]
  | .bit_4_L => [Config.escapeOpcode, 0x65]
  | .bit_4_mHL => [Config.escapeOpcode, 0x66]
  | .bit_4_A => [Config.escapeOpcode, 0x67]
  | .bit_5_B => [Config.escapeOpcode, 0x68]
  | .bit_5_C => [Config.escapeOpcode, 0x69]
  | .bit_5_D => [Config.escapeOpcode, 0x6A]
  | .bit_5_E => [Config.escapeOpcode, 0x6B]
  | .bit_5_H => [Config.escapeOpcode, 0x6C]
  | .bit_5_L => [Config.escapeOpcode, 0x6D]
  | .bit_5_mHL => [Config.escapeOpcode, 0x6E]
  | .bit_5_A => [Config.escapeOpcode, 0x6F]
  | .bit_6_B => [Config.escapeOpcode, 0x70]
  | .bit_6_C => [Config.escapeOpcode, 0x71]
  | .bit_6_D => [Config.escapeOpcode, 0x72]
  | .bit_6_E => [Config.escapeOpcode, 0x73]
  | .bit_6_H => [Config.escapeOpcode, 0x74]
  | .bit_6_L => [Config.escapeOpcode, 0x75]
  | .bit_6_mHL => [Config.escapeOpcode, 0x76]
  | .bit_6_A => [Config.escapeOpcode, 0x77]
  | .bit_7_B => [Config.escapeOpcode, 0x78]
  | .bit_7_C => [Config.escapeOpcode, 0x79]
  | .bit_7_D => [Config.escapeOpcode, 0x7A]
  | .bit_7_E => [Config.escapeOpcode, 0x7B]
  | .bit_7_H => [Config.escapeOpcode, 0x7C]
  | .bit_7_L => [Config.escapeOpcode, 0x7D]
  | .bit_7_mHL => [Config.escapeOpcode, 0x7E]
  | .bit_7_A => [Config.escapeOpcode, 0x7F]
  | .res_0_B => [Config.escapeOpcode, 0x80]
  | .res_0_C => [Config.escapeOpcode, 0x81]
  | .res_0_D => [Config.escapeOpcode, 0x82]
  | .res_0_E => [Config.escapeOpcode, 0x83]
  | .res_0_H => [Config.escapeOpcode, 0x84]
  | .res_0_L => [Config.escapeOpcode, 0x85]
  | .res_0_mHL => [Config.escapeOpcode, 0x86]
  | .res_0_A => [Config.escapeOpcode, 0x87]
  | .res_1_B => [Config.escapeOpcode, 0x88]
  | .res_1_C => [Config.escapeOpcode, 0x89]
  | .res_1_D => [Config.escapeOpcode, 0x8A]
  | .res_1_E => [Config.escapeOpcode, 0x8B]
  | .res_1_H => [Config.escapeOpcode, 0x8C]
  | .res_1_L => [Config.escapeOpcode, 0x8D]
  | .res_1_mHL => [Config.escapeOpcode, 0x8E]
  | .res_1_A => [Config.escapeOpcode, 0x8F]
  | .res_2_B => [Config.escapeOpcode, 0x90]
  | .res_2_C => [Config.escapeOpcode, 0x91]
  | .res_2_D => [Config.escapeOpcode, 0x92]
  | .res_2_E => [Config.escapeOpcode, 0x93]
  | .res_2_H => [Config.escapeOpcode, 0x94]
  | .res_2_L => [Config.escapeOpcode, 0x95]
  | .res_2_mHL => [Config.escapeOpcode, 0x96]
  | .res_2_A => [Config.escapeOpcode, 0x97]
  | .res_3_B => [Config.escapeOpcode, 0x98]
  | .res_3_C => [Config.escapeOpcode, 0x99]
  | .res_3_D => [Config.escapeOpcode, 0x9A]
  | .res_3_E => [Config.escapeOpcode, 0x9B]
  | .res_3_H => [Config.escapeOpcode, 0x9C]
  | .res_3_L => [Config.escapeOpcode, 0x9D]
  | .res_3_mHL => [Config.escapeOpcode, 0x9E]
  | .res_3_A => [Config.escapeOpcode, 0x9F]
  | .res_4_B => [Config.escapeOpcode, 0xA0]
  | .res_4_C => [Config.escapeOpcode, 0xA1]
  | .res_4_D => [Config.escapeOpcode, 0xA2]
  | .res_4_E => [Config.escapeOpcode, 0xA3]
  | .res_4_H => [Config.escapeOpcode, 0xA4]
  | .res_4_L => [Config.escapeOpcode, 0xA5]
  | .res_4_mHL => [Config.escapeOpcode, 0xA6]
  | .res_4_A => [Config.escapeOpcode, 0xA7]
  | .res_5_B => [Config.escapeOpcode, 0xA8]
  | .res_5_C => [Config.escapeOpcode, 0xA9]
  | .res_5_D => [Config.escapeOpcode, 0xAA]
  | .res_5_E => [Config.escapeOpcode, 0xAB]
  | .res_5_H => [Config.escapeOpcode, 0xAC]
  | .res_5_L => [Config.escapeOpcode, 0xAD]
  | .res_5_mHL => [Config.escapeOpcode, 0xAE]
  | .res_5_A => [Config.escapeOpcode, 0xAF]
  | .res_6_B => [Config.escapeOpcode, 0xB0]
  | .res_6_C => [Config.escapeOpcode, 0xB1]
  | .res_6_D => [Config.escapeOpcode, 0xB2]
  | .res_6_E => [Config.escapeOpcode, 0xB3]
  | .res_6_H => [Config.escapeOpcode, 0xB4]
  | .res_6_L => [Config.escapeOpcode, 0xB5]
  | .res_6_mHL => [Config.escapeOpcode, 0xB6]
  | .res_6_A => [Config.escapeOpcode, 0xB7]
  | .res_7_B => [Config.escapeOpcode, 0xB8]
  | .res_7_C => [Config.escapeOpcode, 0xB9]
  | .res_7_D => [Config.escapeOpcode, 0xBA]
  | .res_7_E => [Config.escapeOpcode, 0xBB]
  | .res_7_H => [Config.escapeOpcode, 0xBC]
  | .res_7_L => [Config.escapeOpcode, 0xBD]
  | .res_7_mHL => [Config.escapeOpcode, 0xBE]
  | .res_7_A => [Config.escapeOpcode, 0xBF]
  | .set_0_B => [Config.escapeOpcode, 0xC0]
  | .set_0_C => [Config.escapeOpcode, 0xC1]
  | .set_0_D => [Config.escapeOpcode, 0xC2]
  | .set_0_E => [Config.escapeOpcode, 0xC3]
  | .set_0_H => [Config.escapeOpcode, 0xC4]
  | .set_0_L => [Config.escapeOpcode, 0xC5]
  | .set_0_mHL => [Config.escapeOpcode, 0xC6]
  | .set_0_A => [Config.escapeOpcode, 0xC7]
  | .set_1_B => [Config.escapeOpcode, 0xC8]
  | .set_1_C => [Config.escapeOpcode, 0xC9]
  | .set_1_D => [Config.escapeOpcode, 0xCA]
  | .set_1_E => [Config.escapeOpcode, 0xCB]
  | .set_1_H => [Config.escapeOpcode, 0xCC]
  | .set_1_L => [Config.escapeOpcode, 0xCD]
  | .set_1_mHL => [Config.escapeOpcode, 0xCE]
  | .set_1_A => [Config.escapeOpcode, 0xCF]
  | .set_2_B => [Config.escapeOpcode, 0xD0]
  | .set_2_C => [Config.escapeOpcode, 0xD1]
  | .set_2_D => [Config.escapeOpcode, 0xD2]
  | .set_2_E => [Config.escapeOpcode, 0xD3]
  | .set_2_H => [Config.escapeOpcode, 0xD4]
  | .set_2_L => [Config.escapeOpcode, 0xD5]
  | .set_2_mHL => [Config.escapeOpcode, 0xD6]
  | .set_2_A => [Config.escapeOpcode, 0xD7]
  | .set_3_B => [Config.escapeOpcode, 0xD8]
  | .set_3_C => [Config.escapeOpcode, 0xD9]
  | .set_3_D => [Config.escapeOpcode, 0xDA]
  | .set_3_E => [Config.escapeOpcode, 0xDB]
  | .set_3_H => [Config.escapeOpcode, 0xDC]
  | .set_3_L => [Config.escapeOpcode, 0xDD]
  | .set_3_mHL => [Config.escapeOpcode, 0xDE]
  | .set_3_A => [Config.escapeOpcode, 0xDF]
  | .set_4_B => [Config.escapeOpcode, 0xE0]
  | .set_4_C => [Config.escapeOpcode, 0xE1]
  | .set_4_D => [Config.escapeOpcode, 0xE2]
  | .set_4_E => [Config.escapeOpcode, 0xE3]
  | .set_4_H => [Config.escapeOpcode, 0xE4]
  | .set_4_L => [Config.escapeOpcode, 0xE5]
  | .set_4_mHL => [Config.escapeOpcode, 0xE6]
  | .set_4_A => [Config.escapeOpcode, 0xE7]
  | .set_5_B => [Config.escapeOpcode, 0xE8]
  | .set_5_C => [Config.escapeOpcode, 0xE9]
  | .set_5_D => [Config.escapeOpcode, 0xEA]
  | .set_5_E => [Config.escapeOpcode, 0xEB]
  | .set_5_H => [Config.escapeOpcode, 0xEC]
  | .set_5_L => [Config.escapeOpcode, 0xED]
  | .set_5_mHL => [Config.escapeOpcode, 0xEE]
  | .set_5_A => [Config.escapeOpcode, 0xEF]
  | .set_6_B => [Config.escapeOpcode, 0xF0]
  | .set_6_C => [Config.escapeOpcode, 0xF1]
  | .set_6_D => [Config.escapeOpcode, 0xF2]
  | .set_6_E => [Config.escapeOpcode, 0xF3]
  | .set_6_H => [Config.escapeOpcode, 0xF4]
  | .set_6_L => [Config.escapeOpcode, 0xF5]
  | .set_6_mHL => [Config.escapeOpcode, 0xF6]
  | .set_6_A => [Config.escapeOpcode, 0xF7]
  | .set_7_B => [Config.escapeOpcode, 0xF8]
  | .set_7_C => [Config.escapeOpcode, 0xF9]
  | .set_7_D => [Config.escapeOpcode, 0xFA]
  | .set_7_E => [Config.escapeOpcode, 0xFB]
  | .set_7_H => [Config.escapeOpcode, 0xFC]
  | .set_7_L => [Config.escapeOpcode, 0xFD]
  | .set_7_mHL => [Config.escapeOpcode, 0xFE]
  | .set_7_A => [Config.escapeOpcode, 0xFF]
end Sys2Proof
end

