-- ==== Sys2Proof/Machine/State.lean ====
section
/-! DEFINITION. Machine/State.lean: the state of CORE (10_state.md R20), the environment its ports reach
(20_memory.md R60, 60_exceptions.md R345) and the values its entry points return, as plain data; why a step
can stop; and the state after reset (R45). -/

namespace Sys2Proof.Machine

/-- What the environment declares of a cell of the address space. CORE attaches no meaning to an address
(R61, R70, R71); a cell no region names is plain RAM. -/
inductive CellKind where
  /-- A read returns the last byte written (R62, "unless its environment says so"). -/
  | ram
  /-- A read returns the stored byte; a write is ignored by the subsystem (R61). -/
  | rom
  /-- Nothing is declared: every read is answered by the environment with any value (R62, U7). -/
  | device
  /-- Routed to the controller's IE (R40, D18). -/
  | enableMask
  /-- Routed to the controller's IF (R40, D18). -/
  | pendingFlags
deriving DecidableEq, Repr

/-- A stretch of the address space, both ends included, and what the environment declares of it. -/
structure Region where
  lo   : Nat
  hi   : Nat
  kind : CellKind
deriving DecidableEq, Repr

/-- Memory as the environment stores it: addresses strictly rising, no entry equal to
`Config.backgroundByte` (`Memory.wf`, Machine/Ops.lean). -/
abbrev Memory := List Host.Cell

/-- One access on the memory port: its address and the byte that crossed it (R60). -/
inductive PortAccess where
  | read (a : Word) (v : Byte)
  | write (a : Word) (v : Byte)
deriving DecidableEq, Repr

/-- The machine. -/
structure State where
  /-- The seven general registers (R22). -/
  a : Byte
  b : Byte
  c : Byte
  d : Byte
  e : Byte
  h : Byte
  l : Byte
  /-- The flags register F, whole (R30). -/
  f : Byte
  /-- The stack pointer (R26). -/
  sp : Word
  /-- The program counter (R27). -/
  pc : Word
  /-- "CPU stopped awaiting interrupt" (R36). -/
  halted : Bool
  /-- "deeper halt awaiting a specific wake signal" (R37). -/
  stopped : Bool
  /-- The interrupt-master-enable (R38). -/
  ime : Bool
  /-- The controller's enable mask IE (R40). -/
  ieReg : Byte
  /-- The controller's pending flags IF (R40). -/
  ifReg : Byte
  /-- The bytes behind the memory port (environment, R20, R62). -/
  mem : Memory
  /-- What the environment declares of the address space; the first region that holds an address decides
  (environment, R62; the MODEL's own field, log 2). -/
  env : List Region
  /-- How many reads of undeclared cells have been answered: the counter of the free value
  `Config.deviceByte` (the MODEL's own field, log 4). -/
  deviceReads : Nat
  /-- The cycle count the last operation returned (R5, R400: an output, not state of CORE; log 6). -/
  cycles : Nat
  /-- The accesses on the memory port since the last Step began, in order (R68; an output, log 6). -/
  trace : List PortAccess
deriving DecidableEq, Repr

/-- Why a step stops with an error. -/
inductive Fault where
  /-- `InvalidOpcode(table, byte)`, the one error kind (60_exceptions.md R340): raised by the meaning of
  `invalid`, by `escape` on a byte whose extended slot is empty, and by the entry points `execute` and
  `executeExtended`. SAFE: the spec returns this error before any change of state (R341), and the step ends. -/
  | invalidOpcode (table : OpTable) (byte : Byte)
deriving DecidableEq, Repr

/-- Why an operation has no meaning. -/
inductive Refusal where
  /-- An instruction without a meaning yet; no arm of exec says it. SAFE. -/
  | notModelled (mnemonic : String)
  /-- `Execute` called with another number of immediates than the opcode's format has: outside the spec
  (47_dispatch.md R320, D32). Raised by the entry point `execute` alone; a Step cannot. SAFE. -/
  | immediateCount
deriving DecidableEq, Repr

/-- The outcome of an operation of this machine. -/
abbrev Result := Host.Outcome State Fault Refusal

/-- The machine right after `Reset` (10_state.md R45, 70_reset_and_hazards.md R380), in the environment of
95_test_vectors.md: plain RAM that nothing has written (log 2, 3). -/
def State.reset : State where
  a := Config.resetA
  b := Config.resetB
  c := Config.resetC
  d := Config.resetD
  e := Config.resetE
  h := Config.resetH
  l := Config.resetL
  f := Config.resetF
  sp := 0xFFFE
  pc := 0x0100
  halted := false
  stopped := false
  ime := false
  ieReg := 0x00
  ifReg := 0xE0
  mem := []
  env := []
  deviceReads := 0
  cycles := 0
  trace := []

end Sys2Proof.Machine
end

