-- ==== Sys2Proof/Machine/Flags.lean ====
section
/-! DEFINITION. Machine/Flags.lean: the flag layer (10_state.md R30 to R32) and every flag and result
computation of files 41 to 46. Sums are formed exactly on naturals or integers and narrowed at the end
(00_scope.md R7); a flag is a comparison of the exact value. -/

namespace Sys2Proof.Machine

/-! ### The flag layer -/

/-- A byte with one bit set or cleared. -/
def putBit (v : Byte) (n : Nat) (b : Bool) : Byte :=
  if b then v ||| ((1 : Byte) <<< n) else v &&& ~~~((1 : Byte) <<< n)

/-- `GetFlag` (R32). -/
def State.getFlag (fl : Flag) (s : State) : Bool := s.f.getLsbD (Config.flagBit fl)

/-- `SetFlag`: only the addressed bit of F (R32). -/
def State.setFlag (fl : Flag) (v : Bool) (s : State) : State :=
  { s with f := putBit s.f (Config.flagBit fl) v }

/-- All four flags, in the order Z, N, H, C. -/
def State.setFlags (z n h c : Bool) (s : State) : State :=
  (((s.setFlag .zero z).setFlag .subtract n).setFlag .halfCarry h).setFlag .carry c

/-- The byte image of four flags, its padding 0 (R30). -/
def flagByte (z n h c : Bool) : Byte :=
  putBit (putBit (putBit (putBit 0 (Config.flagBit .zero) z) (Config.flagBit .subtract) n)
    (Config.flagBit .halfCarry) h) (Config.flagBit .carry) c

/-- `x[F]`, read whole: the four flags, the padding zero (R30, R31). -/
def State.readF (s : State) : Byte :=
  flagByte (s.getFlag .zero) (s.getFlag .subtract) (s.getFlag .halfCarry) (s.getFlag .carry)

/-- F loaded whole: `x[F] <- v & 0xF0` (41_load16_stack.md R173). -/
def State.writeF (v : Byte) (s : State) : State := { s with f := v &&& 0xF0 }

/-! ### Results with their flags -/

/-- A result byte and the four flags an operation computes. -/
structure AluOut where
  w : Byte
  z : Bool
  n : Bool
  h : Bool
  c : Bool
deriving DecidableEq, Repr

/-- `a + s + c`: H from bit 3, C from bit 7 (42_alu8.md R186, R187). -/
def addBytes (a s : Byte) (cin : Bool) : AluOut :=
  let t := a.toNat + s.toNat + bit01 cin
  let w := BitVec.ofNat 8 t
  { w := w, z := w == 0, n := false,
    h := decide (a.toNat % 16 + s.toNat % 16 + bit01 cin > 0xF), c := decide (t > 0xFF) }

/-- `a - s - c`: H and C are the borrows (R188, R189). -/
def subBytes (a s : Byte) (cin : Bool) : AluOut :=
  let t : Int := (a.toNat : Int) - s.toNat - bit01 cin
  let w := BitVec.ofInt 8 t
  { w := w, z := w == 0, n := true,
    h := decide (a.toNat % 16 < s.toNat % 16 + bit01 cin), c := decide (a.toNat < s.toNat + bit01 cin) }

/-- A logical result: N = 0, C = 0, H forced (R190 to R192). -/
def logicOut (w : Byte) (h : Bool) : AluOut :=
  { w := w, z := w == 0, n := false, h := h, c := false }

/-- The eight accumulator operations on A, the operand and the incoming Carry (R186 to R193). CP's result byte
is not written by its meaning. -/
def aluCompute (op : AluOp) (a s : Byte) (carry : Bool) : AluOut :=
  match op with
  | .add => addBytes a s false
  | .adc => addBytes a s carry
  | .sub => subBytes a s false
  | .sbc => subBytes a s carry
  | .and => logicOut (a &&& s) true
  | .xor => logicOut (a ^^^ s) false
  | .or => logicOut (a ||| s) false
  | .cp => subBytes a s false

/-- INC: the result, Zero, and Half-carry exactly when the old low nibble was 0xF (R180). -/
def incByte (v : Byte) : Byte × Bool × Bool :=
  (v + 1, v + 1 == 0, decide (v.toNat % 16 = 0xF))

/-- DEC: the result, Zero, and Half-carry exactly when the old low nibble was 0x0 (R182). -/
def decByte (v : Byte) : Byte × Bool × Bool :=
  (v - 1, v - 1 == 0, decide (v.toNat % 16 = 0x0))

/-- The byte whose bit 0, or bit 7, is a carry. -/
def lowBit (b : Bool) : Byte := if b then 0x01 else 0x00
/-- See `lowBit`. -/
def highBit (b : Bool) : Byte := if b then 0x80 else 0x00

/-- The extended rotates, shifts and SWAP: the result and the outgoing Carry, from the operand and the incoming
Carry (46_extended.md R290 to R297). -/
def rotCompute (op : RotOp) (v : Byte) (carry : Bool) : Byte × Bool :=
  let b7 := v.getLsbD 7
  let b0 := v.getLsbD 0
  match op with
  | .rlc => (v <<< 1 ||| lowBit b7, b7)
  | .rrc => (v >>> 1 ||| highBit b0, b0)
  | .rl => (v <<< 1 ||| lowBit carry, b7)
  | .rr => (v >>> 1 ||| highBit carry, b0)
  | .sla => (v <<< 1, b7)
  | .sra => (v >>> 1 ||| (v &&& 0x80), b0)
  | .swap => (v <<< 4 ||| v >>> 4, false)
  | .srl => (v >>> 1, b0)

/-- The accumulator rotates: the result and the outgoing Carry (42_alu8.md R200 to R203). -/
def accRotCompute (k : AccRot) (v : Byte) (carry : Bool) : Byte × Bool :=
  match k with
  | .rlca => (v <<< 1 ||| lowBit (v.getLsbD 7), v.getLsbD 7)
  | .rrca => (v >>> 1 ||| highBit (v.getLsbD 0), v.getLsbD 0)
  | .rla => (v <<< 1 ||| lowBit carry, v.getLsbD 7)
  | .rra => (v >>> 1 ||| highBit carry, v.getLsbD 0)

/-- DAA_ADJUST: the adjusted accumulator and the outgoing Carry, from A, N, H, C (R205, D9). Both tests of the
addition branch look at the original A. -/
def daaAdjust (a : Byte) (n h c : Bool) : Byte × Bool :=
  if n then
    let adj := (if h then 0x06 else 0) + (if c then 0x60 else 0)
    (BitVec.ofInt 8 ((a.toNat : Int) - adj), c)
  else
    let low := if h ∨ a.toNat % 16 > 9 then 0x06 else 0
    let high := decide (c ∨ a.toNat > 0x99)
    (BitVec.ofNat 8 (a.toNat + low + (if high then 0x60 else 0)), high)

/-- Carries of the low byte of SP and the immediate byte, out of bit 3 and out of bit 7, both unsigned
(41_load16_stack.md R164, 43_alu16.md R221, D25). -/
def spOffsetCarries (sp : Word) (d : Byte) : Bool × Bool :=
  (decide (sp.toNat % 16 + d.toNat % 16 > 0xF), decide (sp.toNat % 256 + d.toNat > 0xFF))

/-- The 16-bit sum with its carries out of bit 11 and bit 15 (43_alu16.md R220). -/
def addWords (x y : Word) : Word × Bool × Bool :=
  (BitVec.ofNat 16 (x.toNat + y.toNat),
    decide (x.toNat % 4096 + y.toNat % 4096 > 0xFFF), decide (x.toNat + y.toNat > 0xFFFF))

end Sys2Proof.Machine
end

