-- ==== Sys2Proof/Machine/Ops.lean ====
section
/-! DEFINITION. Machine/Ops.lean: the named operations on memory, the ports, the stack and the interrupt
controller; taking an interrupt, as one operation, and the return from one beside it. -/

namespace Sys2Proof.Machine

/-! ### Memory -/

/-- A stored byte; an address that is not listed reads as `Config.backgroundByte`. -/
def Memory.read : Memory → Nat → Byte
  | [], _ => Config.backgroundByte
  | (k, v) :: m, a => if k = a then v else Memory.read m a

/-- Store a byte; storing the background byte takes the entry out. -/
def Memory.store : Memory → Nat → Byte → Memory
  | [], a, v => if v = Config.backgroundByte then [] else [(a, v)]
  | (k, w) :: m, a, v =>
    if a < k then (if v = Config.backgroundByte then (k, w) :: m else (a, v) :: (k, w) :: m)
    else if a = k then (if v = Config.backgroundByte then m else (a, v) :: m)
    else (k, w) :: Memory.store m a v

/-- Addresses rise strictly from `lo`, lie in the address space, and no byte is the background's. -/
def Memory.wfFrom : Nat → Memory → Bool
  | _, [] => true
  | lo, (k, v) :: m =>
    decide (lo ≤ k) && decide (k < 65536) && !(v == Config.backgroundByte) && Memory.wfFrom (k + 1) m

/-- The canonical form of memory. -/
def Memory.wf (m : Memory) : Bool := Memory.wfFrom 0 m

/-- What the environment declares of an address: the first region that holds it, else RAM. -/
def kindIn : List Region → Nat → CellKind
  | [], _ => .ram
  | r :: rs, a => if r.lo ≤ a ∧ a ≤ r.hi then r.kind else kindIn rs a

/-- What the environment declares of an address. -/
def State.kindAt (s : State) (a : Word) : CellKind := kindIn s.env a.toNat

/-- The byte stored at an address, with no access on the port: what frames are stated with. -/
def State.peek (s : State) (a : Word) : Byte := Memory.read s.mem a.toNat

/-! ### The interrupt controller (60_exceptions.md R345) -/

/-- `GetIE`. -/
def State.getIE (s : State) : Byte := s.ieReg

/-- `SetIE`. -/
def State.setIE (v : Byte) (s : State) : State := { s with ieReg := v }

/-- `GetIF`: bits 7..5 read as 1. -/
def State.getIF (s : State) : Byte := s.ifReg ||| 0xE0

/-- `SetIF`: bits 4..0 of v; bits 7..5 ignore writes (R345, D18). -/
def State.setIF (v : Byte) (s : State) : State :=
  { s with ifReg := (s.ifReg &&& 0xE0) ||| (v &&& 0x1F) }

/-- `Request(i)`: `IF[i] <- 1`. -/
def State.requestIrq (i : IrqType) (s : State) : State :=
  { s with ifReg := putBit s.ifReg (Config.irqBit i) true }

/-- `Clear(i)`: `IF[i] <- 0`. -/
def State.clearIrq (i : IrqType) (s : State) : State :=
  { s with ifReg := putBit s.ifReg (Config.irqBit i) false }

/-- `IsEnabled(i)`. -/
def State.isEnabled (s : State) (i : IrqType) : Bool := s.ieReg.getLsbD (Config.irqBit i)

/-- `IsPending(i)`. -/
def State.isPending (s : State) (i : IrqType) : Bool := s.ifReg.getLsbD (Config.irqBit i)

/-- `GetHighestPriorityInterrupt`: the least type that is enabled and pending (R345, R348). -/
def State.highestPriority (s : State) : Option IrqType :=
  IrqType.byPriority.find? (fun i => s.isEnabled i && s.isPending i)

/-- `AnyPendingAndEnabled`: `(IE & IF & 0x1F) != 0` (R345). -/
def State.anyPendingAndEnabled (s : State) : Bool := !(s.ieReg &&& s.ifReg &&& 0x1F == 0)

/-- `HaltWake`, whatever `ime` is (R355). -/
def haltWake (s : State) : Bool := s.anyPendingAndEnabled

/-! ### The memory port (20_memory.md R60) -/

/-- The state with one access more on the port's record. -/
def State.record (x : PortAccess) (s : State) : State := { s with trace := s.trace ++ [x] }

/-- What the environment answers to a read, and the environment after it (R62). -/
def State.answer (a : Word) (s : State) : Byte × State :=
  match s.kindAt a with
  | .ram => (s.peek a, s)
  | .rom => (s.peek a, s)
  | .device => (Config.deviceByte s.deviceReads a, { s with deviceReads := s.deviceReads + 1 })
  | .enableMask => (s.getIE, s)
  | .pendingFlags => (s.getIF, s)

/-- `ReadByte(a)`. -/
def State.readByte (a : Word) (s : State) : Byte × State :=
  ((s.answer a).1, (s.answer a).2.record (.read a (s.answer a).1))

/-- What a write does in the environment (R61, R62). -/
def State.accept (a : Word) (v : Byte) (s : State) : State :=
  match s.kindAt a with
  | .ram => { s with mem := Memory.store s.mem a.toNat v }
  | .rom => s
  | .device => s
  | .enableMask => s.setIE v
  | .pendingFlags => s.setIF v

/-- `WriteByte(a, v)`. -/
def State.writeByte (a : Word) (v : Byte) (s : State) : State := (s.accept a v).record (.write a v)

/-- `Write16(a, v)`: the low byte at a, then the high byte at a + 1 (00_scope.md R10, 20_memory.md R66). -/
def State.write16 (a : Word) (v : Word) (s : State) : State :=
  (s.writeByte a (loByte v)).writeByte (a + 1) (hiByte v)

/-! ### The stack (00_scope.md R10, 20_memory.md R65) -/

/-- `Push16(v)`: the high byte first, at the higher address. -/
def State.push16 (v : Word) (s : State) : State :=
  let s1 : State := { s with sp := s.sp - 1 }
  let s2 := s1.writeByte s1.sp (hiByte v)
  let s3 : State := { s2 with sp := s2.sp - 1 }
  s3.writeByte s3.sp (loByte v)

/-- `Pop16()`: the low byte first. -/
def State.pop16 (s : State) : Word × State :=
  let r1 := s.readByte s.sp
  let s1 : State := { r1.2 with sp := r1.2.sp + 1 }
  let r2 := s1.readByte s1.sp
  (joinBytes r2.1 r1.1, { r2.2 with sp := r2.2.sp + 1 })

/-! ### Results -/

/-- `cycles <- k` (00_scope.md R11). -/
def State.took (k : Nat) (s : State) : State := { s with cycles := k }

/-! ### Taking an interrupt, and returning from one -/

/-- The service vector of a type: 0x0040 + 8*i (60_exceptions.md R346). -/
def vectorOf (i : IrqType) : Word := BitVec.ofNat 16 (0x0040 + 8 * i.index)

/-- The transition idle → servicing for type i, in the order of R350: IME cleared, the pending bit cleared, PC
pushed, PC at the vector, `halted` cleared; 20 cycles. -/
def takeInterrupt (i : IrqType) (s : State) : State :=
  let s1 : State := { s with ime := false }
  let s2 := s1.clearIrq i
  let s3 := s2.push16 s2.pc
  let s4 : State := { s3 with pc := vectorOf i }
  let s5 : State := { s4 with halted := false }
  s5.took 20

/-- The return: `pc <- Pop16()` (R353; RET has it alone, R248). -/
def returnFromStack (s : State) : State :=
  let r := s.pop16
  { r.2 with pc := r.1 }

/-- The return that sets IME at once (R353, 44_control_transfer.md R250). -/
def returnFromInterrupt (s : State) : State := { returnFromStack s with ime := true }

/-- The type the service step would service: none while IME is false (R350). -/
def serviceable (s : State) : Option IrqType := if s.ime then s.highestPriority else none

/-- `ServiceInterrupt()`: 20 cycles where it services one, else 0 and no change (R350). -/
def serviceInterrupt (s : State) : State :=
  match serviceable s with
  | some i => takeInterrupt i s
  | none => s.took 0

end Sys2Proof.Machine
end

