-- ==== Sys2Proof/Machine/Operands.lean ====
section
/-! DEFINITION. Machine/Operands.lean: the operand forms: registers and pairs (10_state.md R22, R23), the eight
8-bit operands (30_encoding.md R94), conditions (00_scope.md R12) and effective addresses. -/

namespace Sys2Proof.Machine

/-- `x[r]` (00_scope.md R9). -/
def State.getReg (r : Reg8) (s : State) : Byte :=
  match r with
  | .B => s.b | .C => s.c | .D => s.d | .E => s.e | .H => s.h | .L => s.l | .A => s.a

/-- `x[r] <- v` (R9). No register is hard-wired (10_state.md R22). -/
def State.setReg (r : Reg8) (v : Byte) (s : State) : State :=
  match r with
  | .B => { s with b := v }
  | .C => { s with c := v }
  | .D => { s with d := v }
  | .E => { s with e := v }
  | .H => { s with h := v }
  | .L => { s with l := v }
  | .A => { s with a := v }

/-- `x[BC]`, the first register high (R23). -/
def State.bc (s : State) : Word := joinBytes s.b s.c
/-- `x[DE]` (R23). -/
def State.de (s : State) : Word := joinBytes s.d s.e
/-- `x[HL]` (R23). -/
def State.hl (s : State) : Word := joinBytes s.h s.l
/-- `x[AF]`, F with its padding zero (R23, R31). -/
def State.af (s : State) : Word := joinBytes s.a s.readF

/-- `x[HL] <- v` (R23). -/
def State.setHL (v : Word) (s : State) : State := { s with h := hiByte v, l := loByte v }

/-- A pair of the set BC, DE, HL, SP (30_encoding.md R95). -/
def State.getPair (rp : Pair) (s : State) : Word :=
  match rp with
  | .BC => s.bc | .DE => s.de | .HL => s.hl | .SP => s.sp

/-- Writing a pair writes both halves (R23). -/
def State.setPair (rp : Pair) (v : Word) (s : State) : State :=
  match rp with
  | .BC => { s with b := hiByte v, c := loByte v }
  | .DE => { s with d := hiByte v, e := loByte v }
  | .HL => s.setHL v
  | .SP => { s with sp := v }

/-- A pair of the set BC, DE, HL, AF (30_encoding.md R95). -/
def State.getStackPair (rp2 : StackPair) (s : State) : Word :=
  match rp2 with
  | .BC => s.bc | .DE => s.de | .HL => s.hl | .AF => s.af

/-- A popped pair; AF masks the padding of F (41_load16_stack.md R172, R173). -/
def State.setStackPair (rp2 : StackPair) (v : Word) (s : State) : State :=
  match rp2 with
  | .BC => { s with b := hiByte v, c := loByte v }
  | .DE => { s with d := hiByte v, e := loByte v }
  | .HL => s.setHL v
  | .AF => { s.writeF (loByte v) with a := hiByte v }

/-- A pointer pair (40_load8.md R136 to R139). -/
def State.getPtr (p : PtrPair) (s : State) : Word :=
  match p with
  | .BC => s.bc | .DE => s.de

/-- Reading an 8-bit operand: a register, or one `ReadByte` at HL (R94, 46_extended.md R289). -/
def State.readOperand (o : Operand8) (s : State) : Byte × State :=
  match o with
  | .reg r => (s.getReg r, s)
  | .mHL => s.readByte s.hl

/-- Writing an 8-bit operand: a register, or one `WriteByte` at HL (R289). -/
def State.writeOperand (o : Operand8) (v : Byte) (s : State) : State :=
  match o with
  | .reg r => s.setReg r v
  | .mHL => s.writeByte s.hl v

/-- `cond(cc)` (00_scope.md R12). -/
def State.cond (cc : Cond) (s : State) : Bool :=
  match cc with
  | .NZ => !s.getFlag .zero
  | .Z => s.getFlag .zero
  | .NC => !s.getFlag .carry
  | .C => s.getFlag .carry

/-- An address of the I/O page: 0xFF00 + offset (40_load8.md R142 to R145). -/
def ioPage (offset : Byte) : Word := 0xFF00 + offset.zeroExtend 16

/-- The target of RST: 8 * y (30_encoding.md R100). -/
def rstTarget (t : Oct) : Word := BitVec.ofNat 16 (8 * t.toNat)

/-- A cost that depends on the operand being a register or (HL). -/
def costOf (o : Operand8) (register memory : Nat) : Nat :=
  match o with
  | .reg _ => register
  | .mHL => memory

end Sys2Proof.Machine
end

