-- ==== Sys2Proof/Machine/Alu16.lean ====
section
/-! DEFINITION. Machine/Alu16.lean: 16-bit arithmetic (43_alu16.md R220 to R223). -/

namespace Sys2Proof.Machine

/-! ### The forms -/

/-- `ADD HL,rp`: Zero preserved (R220). -/
def doAddHL (rp : Pair) (s : State) : State :=
  let k := addWords s.hl (s.getPair rp)
  ((((s.setHL k.1).setFlag .subtract false).setFlag .halfCarry k.2.1).setFlag .carry k.2.2).took
    Config.cycAddHl

/-- `ADD SP,d`: the flags from the old SP (R221). -/
def doAddSP (d : Byte) (s : State) : State :=
  let k := spOffsetCarries s.sp d
  ((s.setFlags false false k.1 k.2).setPair .SP (s.sp + sext16 d)).took Config.cycAddSp

/-- `INC rp`: no flag (R222). -/
def doIncPair (rp : Pair) (s : State) : State := (s.setPair rp (s.getPair rp + 1)).took Config.cycIncPair

/-- `DEC rp`: no flag (R223). -/
def doDecPair (rp : Pair) (s : State) : State := (s.setPair rp (s.getPair rp - 1)).took Config.cycDecPair

/-! ### The instructions -/

/-- `INC BC` (R222). -/
def execInc_BC (s : State) : Result := .next (doIncPair .BC s)
/-- `ADD HL,BC` (R220). -/
def execAdd_HL_BC (s : State) : Result := .next (doAddHL .BC s)
/-- `DEC BC` (R223). -/
def execDec_BC (s : State) : Result := .next (doDecPair .BC s)
/-- `INC DE` (R222). -/
def execInc_DE (s : State) : Result := .next (doIncPair .DE s)
/-- `ADD HL,DE` (R220). -/
def execAdd_HL_DE (s : State) : Result := .next (doAddHL .DE s)
/-- `DEC DE` (R223). -/
def execDec_DE (s : State) : Result := .next (doDecPair .DE s)
/-- `INC HL` (R222). -/
def execInc_HL (s : State) : Result := .next (doIncPair .HL s)
/-- `ADD HL,HL` (R220). -/
def execAdd_HL_HL (s : State) : Result := .next (doAddHL .HL s)
/-- `DEC HL` (R223). -/
def execDec_HL (s : State) : Result := .next (doDecPair .HL s)
/-- `INC SP` (R222). -/
def execInc_SP (s : State) : Result := .next (doIncPair .SP s)
/-- `ADD HL,SP` (R220). -/
def execAdd_HL_SP (s : State) : Result := .next (doAddHL .SP s)
/-- `DEC SP` (R223). -/
def execDec_SP (s : State) : Result := .next (doDecPair .SP s)
/-- `ADD SP,d` (R221). -/
def execAdd_SP_d (d : Byte) (s : State) : Result := .next (doAddSP d s)

end Sys2Proof.Machine
end

