-- ==== Sys2Proof/Machine/Alu8.lean ====
section
/-! DEFINITION. Machine/Alu8.lean: 8-bit arithmetic and logic (42_alu8.md R180 to R208). -/

namespace Sys2Proof.Machine

/-! ### The forms -/

/-- `INC r`, `INC (HL)`: Carry is not touched (R180, R181). -/
def doInc8 (o : Operand8) (s : State) : State :=
  let v := s.readOperand o
  let k := incByte v.1
  let t := v.2.writeOperand o k.1
  (((t.setFlag .zero k.2.1).setFlag .subtract false).setFlag .halfCarry k.2.2).took (costOf o 4 12)

/-- `DEC r`, `DEC (HL)`: Carry is not touched (R182, R183). -/
def doDec8 (o : Operand8) (s : State) : State :=
  let v := s.readOperand o
  let k := decByte v.1
  let t := v.2.writeOperand o k.1
  (((t.setFlag .zero k.2.1).setFlag .subtract true).setFlag .halfCarry k.2.2).took (costOf o 4 12)

/-- An accumulator operation on A and the operand's byte: its flags, and its result to A but for CP (R185 to
R193). -/
def aluApply (op : AluOp) (v : Byte) (s : State) : State :=
  let k := aluCompute op s.a v (s.getFlag .carry)
  let t := s.setFlags k.z k.n k.h k.c
  match op with
  | .cp => t
  | _ => t.setReg .A k.w

/-- `alu r`, `alu (HL)` (R185). -/
def doAlu (op : AluOp) (o : Operand8) (s : State) : State :=
  let v := s.readOperand o
  (aluApply op v.1 v.2).took (costOf o 4 8)

/-- `alu n` (R185). -/
def doAluImm (op : AluOp) (n : Byte) (s : State) : State := (aluApply op n s).took 8

/-- RLCA, RRCA, RLA, RRA: Zero is cleared, not computed (R200 to R203). -/
def doAccRot (k : AccRot) (s : State) : State :=
  let r := accRotCompute k s.a (s.getFlag .carry)
  ((s.setReg .A r.1).setFlags false false false r.2).took Config.cycAccRot

/-- DAA: Subtract is not written (R205). -/
def doDaa (s : State) : State :=
  let r := daaAdjust s.a (s.getFlag .subtract) (s.getFlag .halfCarry) (s.getFlag .carry)
  ((((s.setReg .A r.1).setFlag .zero (r.1 == 0)).setFlag .halfCarry false).setFlag .carry r.2).took
    Config.cycDaa

/-- CPL: Zero and Carry untouched (R206). -/
def doCpl (s : State) : State :=
  (((s.setReg .A (~~~s.a)).setFlag .subtract true).setFlag .halfCarry true).took Config.cycCpl

/-- SCF: Zero untouched (R207). -/
def doScf (s : State) : State :=
  (((s.setFlag .carry true).setFlag .subtract false).setFlag .halfCarry false).took Config.cycScf

/-- CCF: Zero untouched (R208). -/
def doCcf (s : State) : State :=
  (((s.setFlag .carry (!s.getFlag .carry)).setFlag .subtract false).setFlag .halfCarry false).took
    Config.cycCcf

/-! ### The instructions -/

/-- `INC B` (R180). -/
def execInc_B (s : State) : Result := .next (doInc8 (.reg .B) s)
/-- `DEC B` (R182). -/
def execDec_B (s : State) : Result := .next (doDec8 (.reg .B) s)
/-- `RLCA` (R200). -/
def execRlca (s : State) : Result := .next (doAccRot .rlca s)
/-- `INC C` (R180). -/
def execInc_C (s : State) : Result := .next (doInc8 (.reg .C) s)
/-- `DEC C` (R182). -/
def execDec_C (s : State) : Result := .next (doDec8 (.reg .C) s)
/-- `RRCA` (R201). -/
def execRrca (s : State) : Result := .next (doAccRot .rrca s)
/-- `INC D` (R180). -/
def execInc_D (s : State) : Result := .next (doInc8 (.reg .D) s)
/-- `DEC D` (R182). -/
def execDec_D (s : State) : Result := .next (doDec8 (.reg .D) s)
/-- `RLA` (R202). -/
def execRla (s : State) : Result := .next (doAccRot .rla s)
/-- `INC E` (R180). -/
def execInc_E (s : State) : Result := .next (doInc8 (.reg .E) s)
/-- `DEC E` (R182). -/
def execDec_E (s : State) : Result := .next (doDec8 (.reg .E) s)
/-- `RRA` (R203). -/
def execRra (s : State) : Result := .next (doAccRot .rra s)
/-- `INC H` (R180). -/
def execInc_H (s : State) : Result := .next (doInc8 (.reg .H) s)
/-- `DEC H` (R182). -/
def execDec_H (s : State) : Result := .next (doDec8 (.reg .H) s)
/-- `DAA` (R205). -/
def execDaa (s : State) : Result := .next (doDaa s)
/-- `INC L` (R180). -/
def execInc_L (s : State) : Result := .next (doInc8 (.reg .L) s)
/-- `DEC L` (R182). -/
def execDec_L (s : State) : Result := .next (doDec8 (.reg .L) s)
/-- `CPL` (R206). -/
def execCpl (s : State) : Result := .next (doCpl s)
/-- `INC (HL)` (R181). -/
def execInc_mHL (s : State) : Result := .next (doInc8 .mHL s)
/-- `DEC (HL)` (R183). -/
def execDec_mHL (s : State) : Result := .next (doDec8 .mHL s)
/-- `SCF` (R207). -/
def execScf (s : State) : Result := .next (doScf s)
/-- `INC A` (R180). -/
def execInc_A (s : State) : Result := .next (doInc8 (.reg .A) s)
/-- `DEC A` (R182). -/
def execDec_A (s : State) : Result := .next (doDec8 (.reg .A) s)
/-- `CCF` (R208). -/
def execCcf (s : State) : Result := .next (doCcf s)
/-- `ADD A,B` (R186). -/
def execAdd_A_B (s : State) : Result := .next (doAlu .add (.reg .B) s)
/-- `ADD A,C` (R186). -/
def execAdd_A_C (s : State) : Result := .next (doAlu .add (.reg .C) s)
/-- `ADD A,D` (R186). -/
def execAdd_A_D (s : State) : Result := .next (doAlu .add (.reg .D) s)
/-- `ADD A,E` (R186). -/
def execAdd_A_E (s : State) : Result := .next (doAlu .add (.reg .E) s)
/-- `ADD A,H` (R186). -/
def execAdd_A_H (s : State) : Result := .next (doAlu .add (.reg .H) s)
/-- `ADD A,L` (R186). -/
def execAdd_A_L (s : State) : Result := .next (doAlu .add (.reg .L) s)
/-- `ADD A,(HL)` (R186). -/
def execAdd_A_mHL (s : State) : Result := .next (doAlu .add .mHL s)
/-- `ADD A,A` (R186). -/
def execAdd_A_A (s : State) : Result := .next (doAlu .add (.reg .A) s)
/-- `ADC A,B` (R187). -/
def execAdc_A_B (s : State) : Result := .next (doAlu .adc (.reg .B) s)
/-- `ADC A,C` (R187). -/
def execAdc_A_C (s : State) : Result := .next (doAlu .adc (.reg .C) s)
/-- `ADC A,D` (R187). -/
def execAdc_A_D (s : State) : Result := .next (doAlu .adc (.reg .D) s)
/-- `ADC A,E` (R187). -/
def execAdc_A_E (s : State) : Result := .next (doAlu .adc (.reg .E) s)
/-- `ADC A,H` (R187). -/
def execAdc_A_H (s : State) : Result := .next (doAlu .adc (.reg .H) s)
/-- `ADC A,L` (R187). -/
def execAdc_A_L (s : State) : Result := .next (doAlu .adc (.reg .L) s)
/-- `ADC A,(HL)` (R187). -/
def execAdc_A_mHL (s : State) : Result := .next (doAlu .adc .mHL s)
/-- `ADC A,A` (R187). -/
def execAdc_A_A (s : State) : Result := .next (doAlu .adc (.reg .A) s)
/-- `SUB B` (R188). -/
def execSub_B (s : State) : Result := .next (doAlu .sub (.reg .B) s)
/-- `SUB C` (R188). -/
def execSub_C (s : State) : Result := .next (doAlu .sub (.reg .C) s)
/-- `SUB D` (R188). -/
def execSub_D (s : State) : Result := .next (doAlu .sub (.reg .D) s)
/-- `SUB E` (R188). -/
def execSub_E (s : State) : Result := .next (doAlu .sub (.reg .E) s)
/-- `SUB H` (R188). -/
def execSub_H (s : State) : Result := .next (doAlu .sub (.reg .H) s)
/-- `SUB L` (R188). -/
def execSub_L (s : State) : Result := .next (doAlu .sub (.reg .L) s)
/-- `SUB (HL)` (R188). -/
def execSub_mHL (s : State) : Result := .next (doAlu .sub .mHL s)
/-- `SUB A` (R188). -/
def execSub_A (s : State) : Result := .next (doAlu .sub (.reg .A) s)
/-- `SBC A,B` (R189). -/
def execSbc_A_B (s : State) : Result := .next (doAlu .sbc (.reg .B) s)
/-- `SBC A,C` (R189). -/
def execSbc_A_C (s : State) : Result := .next (doAlu .sbc (.reg .C) s)
/-- `SBC A,D` (R189). -/
def execSbc_A_D (s : State) : Result := .next (doAlu .sbc (.reg .D) s)
/-- `SBC A,E` (R189). -/
def execSbc_A_E (s : State) : Result := .next (doAlu .sbc (.reg .E) s)
/-- `SBC A,H` (R189). -/
def execSbc_A_H (s : State) : Result := .next (doAlu .sbc (.reg .H) s)
/-- `SBC A,L` (R189). -/
def execSbc_A_L (s : State) : Result := .next (doAlu .sbc (.reg .L) s)
/-- `SBC A,(HL)` (R189). -/
def execSbc_A_mHL (s : State) : Result := .next (doAlu .sbc .mHL s)
/-- `SBC A,A` (R189). -/
def execSbc_A_A (s : State) : Result := .next (doAlu .sbc (.reg .A) s)
/-- `AND B` (R190). -/
def execAnd_B (s : State) : Result := .next (doAlu .and (.reg .B) s)
/-- `AND C` (R190). -/
def execAnd_C (s : State) : Result := .next (doAlu .and (.reg .C) s)
/-- `AND D` (R190). -/
def execAnd_D (s : State) : Result := .next (doAlu .and (.reg .D) s)
/-- `AND E` (R190). -/
def execAnd_E (s : State) : Result := .next (doAlu .and (.reg .E) s)
/-- `AND H` (R190). -/
def execAnd_H (s : State) : Result := .next (doAlu .and (.reg .H) s)
/-- `AND L` (R190). -/
def execAnd_L (s : State) : Result := .next (doAlu .and (.reg .L) s)
/-- `AND (HL)` (R190). -/
def execAnd_mHL (s : State) : Result := .next (doAlu .and .mHL s)
/-- `AND A` (R190). -/
def execAnd_A (s : State) : Result := .next (doAlu .and (.reg .A) s)
/-- `XOR B` (R191). -/
def execXor_B (s : State) : Result := .next (doAlu .xor (.reg .B) s)
/-- `XOR C` (R191). -/
def execXor_C (s : State) : Result := .next (doAlu .xor (.reg .C) s)
/-- `XOR D` (R191). -/
def execXor_D (s : State) : Result := .next (doAlu .xor (.reg .D) s)
/-- `XOR E` (R191). -/
def execXor_E (s : State) : Result := .next (doAlu .xor (.reg .E) s)
/-- `XOR H` (R191). -/
def execXor_H (s : State) : Result := .next (doAlu .xor (.reg .H) s)
/-- `XOR L` (R191). -/
def execXor_L (s : State) : Result := .next (doAlu .xor (.reg .L) s)
/-- `XOR (HL)` (R191). -/
def execXor_mHL (s : State) : Result := .next (doAlu .xor .mHL s)
/-- `XOR A` (R191). -/
def execXor_A (s : State) : Result := .next (doAlu .xor (.reg .A) s)
/-- `OR B` (R192). -/
def execOr_B (s : State) : Result := .next (doAlu .or (.reg .B) s)
/-- `OR C` (R192). -/
def execOr_C (s : State) : Result := .next (doAlu .or (.reg .C) s)
/-- `OR D` (R192). -/
def execOr_D (s : State) : Result := .next (doAlu .or (.reg .D) s)
/-- `OR E` (R192). -/
def execOr_E (s : State) : Result := .next (doAlu .or (.reg .E) s)
/-- `OR H` (R192). -/
def execOr_H (s : State) : Result := .next (doAlu .or (.reg .H) s)
/-- `OR L` (R192). -/
def execOr_L (s : State) : Result := .next (doAlu .or (.reg .L) s)
/-- `OR (HL)` (R192). -/
def execOr_mHL (s : State) : Result := .next (doAlu .or .mHL s)
/-- `OR A` (R192). -/
def execOr_A (s : State) : Result := .next (doAlu .or (.reg .A) s)
/-- `CP B` (R193). -/
def execCp_B (s : State) : Result := .next (doAlu .cp (.reg .B) s)
/-- `CP C` (R193). -/
def execCp_C (s : State) : Result := .next (doAlu .cp (.reg .C) s)
/-- `CP D` (R193). -/
def execCp_D (s : State) : Result := .next (doAlu .cp (.reg .D) s)
/-- `CP E` (R193). -/
def execCp_E (s : State) : Result := .next (doAlu .cp (.reg .E) s)
/-- `CP H` (R193). -/
def execCp_H (s : State) : Result := .next (doAlu .cp (.reg .H) s)
/-- `CP L` (R193). -/
def execCp_L (s : State) : Result := .next (doAlu .cp (.reg .L) s)
/-- `CP (HL)` (R193). -/
def execCp_mHL (s : State) : Result := .next (doAlu .cp .mHL s)
/-- `CP A` (R193). -/
def execCp_A (s : State) : Result := .next (doAlu .cp (.reg .A) s)
/-- `ADD A,n` (R186). -/
def execAdd_A_n (n : Byte) (s : State) : Result := .next (doAluImm .add n s)
/-- `ADC A,n` (R187). -/
def execAdc_A_n (n : Byte) (s : State) : Result := .next (doAluImm .adc n s)
/-- `SUB n` (R188). -/
def execSub_n (n : Byte) (s : State) : Result := .next (doAluImm .sub n s)
/-- `SBC A,n` (R189). -/
def execSbc_A_n (n : Byte) (s : State) : Result := .next (doAluImm .sbc n s)
/-- `AND n` (R190). -/
def execAnd_n (n : Byte) (s : State) : Result := .next (doAluImm .and n s)
/-- `XOR n` (R191). -/
def execXor_n (n : Byte) (s : State) : Result := .next (doAluImm .xor n s)
/-- `OR n` (R192). -/
def execOr_n (n : Byte) (s : State) : Result := .next (doAluImm .or n s)
/-- `CP n` (R193). -/
def execCp_n (n : Byte) (s : State) : Result := .next (doAluImm .cp n s)

end Sys2Proof.Machine
end

