-- ==== Sys2Proof/Machine/Control.lean ====
section
/-! DEFINITION. Machine/Control.lean: jumps, calls, returns and restarts (44_control_transfer.md R240 to R252).
PC holds the address after the whole instruction when a meaning starts (R240). No flag is written. -/

namespace Sys2Proof.Machine

/-! ### The forms -/

/-- `pc <- target`. -/
def State.jumpTo (target : Word) (s : State) : State := { s with pc := target }

/-- `Push16(pc); pc <- target` (R246). -/
def State.callTo (target : Word) (s : State) : State := (s.push16 s.pc).jumpTo target

/-- `JP nn` (R241). -/
def doJp (nn : Word) (s : State) : State := (s.jumpTo nn).took 16

/-- `JP cc,nn` (R242). -/
def doJpCond (cc : Cond) (nn : Word) (s : State) : State :=
  if s.cond cc then (s.jumpTo nn).took 16 else s.took 12

/-- `JP (HL)`: no memory is read (R243). -/
def doJpHL (s : State) : State := (s.jumpTo s.hl).took 4

/-- `JR d`: from the address after the instruction (R244). -/
def doJr (d : Byte) (s : State) : State := (s.jumpTo (s.pc + sext16 d)).took 12

/-- `JR cc,d` (R245). -/
def doJrCond (cc : Cond) (d : Byte) (s : State) : State :=
  if s.cond cc then (s.jumpTo (s.pc + sext16 d)).took 12 else s.took 8

/-- `CALL nn` (R246). -/
def doCall (nn : Word) (s : State) : State := (s.callTo nn).took 24

/-- `CALL cc,nn` (R247). -/
def doCallCond (cc : Cond) (nn : Word) (s : State) : State :=
  if s.cond cc then (s.callTo nn).took 24 else s.took 12

/-- `RET` (R248). -/
def doRet (s : State) : State := (returnFromStack s).took 16

/-- `RET cc` (R249). -/
def doRetCond (cc : Cond) (s : State) : State :=
  if s.cond cc then (returnFromStack s).took 20 else s.took 8

/-- `RETI` (R250). -/
def doReti (s : State) : State := (returnFromInterrupt s).took Config.cycReti

/-- `RST t` (R251). -/
def doRst (t : Oct) (s : State) : State := (s.callTo (rstTarget t)).took 16

/-! ### The instructions -/

/-- `JR d` (R244). -/
def execJr_d (d : Byte) (s : State) : Result := .next (doJr d s)
/-- `JR NZ,d` (R245). -/
def execJr_NZ_d (d : Byte) (s : State) : Result := .next (doJrCond .NZ d s)
/-- `JR Z,d` (R245). -/
def execJr_Z_d (d : Byte) (s : State) : Result := .next (doJrCond .Z d s)
/-- `JR NC,d` (R245). -/
def execJr_NC_d (d : Byte) (s : State) : Result := .next (doJrCond .NC d s)
/-- `JR C,d` (R245). -/
def execJr_C_d (d : Byte) (s : State) : Result := .next (doJrCond .C d s)
/-- `RET NZ` (R249). -/
def execRet_NZ (s : State) : Result := .next (doRetCond .NZ s)
/-- `JP NZ,nn` (R242). -/
def execJp_NZ_nn (nn : Word) (s : State) : Result := .next (doJpCond .NZ nn s)
/-- `JP nn` (R241). -/
def execJp_nn (nn : Word) (s : State) : Result := .next (doJp nn s)
/-- `CALL NZ,nn` (R247). -/
def execCall_NZ_nn (nn : Word) (s : State) : Result := .next (doCallCond .NZ nn s)
/-- `RST 0x00` (R251). -/
def execRst_00 (s : State) : Result := .next (doRst .o0 s)
/-- `RET Z` (R249). -/
def execRet_Z (s : State) : Result := .next (doRetCond .Z s)
/-- `RET` (R248). -/
def execRet (s : State) : Result := .next (doRet s)
/-- `JP Z,nn` (R242). -/
def execJp_Z_nn (nn : Word) (s : State) : Result := .next (doJpCond .Z nn s)
/-- `CALL Z,nn` (R247). -/
def execCall_Z_nn (nn : Word) (s : State) : Result := .next (doCallCond .Z nn s)
/-- `CALL nn` (R246). -/
def execCall_nn (nn : Word) (s : State) : Result := .next (doCall nn s)
/-- `RST 0x08` (R251). -/
def execRst_08 (s : State) : Result := .next (doRst .o1 s)
/-- `RET NC` (R249). -/
def execRet_NC (s : State) : Result := .next (doRetCond .NC s)
/-- `JP NC,nn` (R242). -/
def execJp_NC_nn (nn : Word) (s : State) : Result := .next (doJpCond .NC nn s)
/-- `CALL NC,nn` (R247). -/
def execCall_NC_nn (nn : Word) (s : State) : Result := .next (doCallCond .NC nn s)
/-- `RST 0x10` (R251). -/
def execRst_10 (s : State) : Result := .next (doRst .o2 s)
/-- `RET C` (R249). -/
def execRet_C (s : State) : Result := .next (doRetCond .C s)
/-- `RETI` (R250). -/
def execReti (s : State) : Result := .next (doReti s)
/-- `JP C,nn` (R242). -/
def execJp_C_nn (nn : Word) (s : State) : Result := .next (doJpCond .C nn s)
/-- `CALL C,nn` (R247). -/
def execCall_C_nn (nn : Word) (s : State) : Result := .next (doCallCond .C nn s)
/-- `RST 0x18` (R251). -/
def execRst_18 (s : State) : Result := .next (doRst .o3 s)
/-- `RST 0x20` (R251). -/
def execRst_20 (s : State) : Result := .next (doRst .o4 s)
/-- `JP (HL)` (R243). -/
def execJp_mHL (s : State) : Result := .next (doJpHL s)
/-- `RST 0x28` (R251). -/
def execRst_28 (s : State) : Result := .next (doRst .o5 s)
/-- `RST 0x30` (R251). -/
def execRst_30 (s : State) : Result := .next (doRst .o6 s)
/-- `RST 0x38` (R251). -/
def execRst_38 (s : State) : Result := .next (doRst .o7 s)

end Sys2Proof.Machine
end

