-- ==== Sys2Proof/Machine/Extended.lean ====
section
/-! DEFINITION. Machine/Extended.lean: the extended instruction set (46_extended.md R289 to R303) and the entry
point `ExecuteExtended` (47_dispatch.md R322). A handler sets the count `ExecuteExtended` returns (8, 12, 16);
the instruction, reached through the escape, takes 4 more (R323). -/

namespace Sys2Proof.Machine

/-! ### The handlers of the extended table -/

/-- A rotate, a shift or SWAP: one read, one write back, the four flags (R289 to R297). -/
def extRot (op : RotOp) (o : Operand8) (s : State) : State :=
  let v := s.readOperand o
  let k := rotCompute op v.1 (s.getFlag .carry)
  ((v.2.writeOperand o k.1).setFlags (k.1 == 0) false false k.2).took (costOf o 8 16)

/-- `BIT b,r`: a read and no write; Carry untouched (R300). -/
def extBit (b : Oct) (o : Operand8) (s : State) : State :=
  let v := s.readOperand o
  (((v.2.setFlag .zero (!v.1.getLsbD b.toNat)).setFlag .subtract false).setFlag .halfCarry true).took
    (costOf o 8 12)

/-- `RES b,r`: written back even when equal; no flag (R301). -/
def extRes (b : Oct) (o : Operand8) (s : State) : State :=
  let v := s.readOperand o
  (v.2.writeOperand o (putBit v.1 b.toNat false)).took (costOf o 8 16)

/-- `SET b,r`: written back even when equal; no flag (R302). -/
def extSet (b : Oct) (o : Operand8) (s : State) : State :=
  let v := s.readOperand o
  (v.2.writeOperand o (putBit v.1 b.toNat true)).took (costOf o 8 16)

/-- The handler of an extended form. -/
def extHandler (x : ExtForm) (s : State) : State :=
  match x with
  | .rot op o => extRot op o s
  | .bit b o => extBit b o s
  | .res b o => extRes b o s
  | .set b o => extSet b o s

/-- `ExecuteExtended(secondByte)`: the handler's own count, without the escape's (R322). -/
def executeExtended (e : Byte) (s : State) : Result :=
  if e ∈ Config.unimplExtended then .fault (.invalidOpcode .extended e)
  else .next (extHandler (extendedForm e) s)

/-- What the escape handler adds to the count before returning (45_cpu_control.md R275). -/
def viaEscape (s : State) : State := s.took (s.cycles + Config.cycExtEscapeExtra)

/-! ### The instructions -/

/-- `RLC B` (R290). -/
def execRlc_B (s : State) : Result := .next (viaEscape (extRot .rlc (.reg .B) s))
/-- `RLC C` (R290). -/
def execRlc_C (s : State) : Result := .next (viaEscape (extRot .rlc (.reg .C) s))
/-- `RLC D` (R290). -/
def execRlc_D (s : State) : Result := .next (viaEscape (extRot .rlc (.reg .D) s))
/-- `RLC E` (R290). -/
def execRlc_E (s : State) : Result := .next (viaEscape (extRot .rlc (.reg .E) s))
/-- `RLC H` (R290). -/
def execRlc_H (s : State) : Result := .next (viaEscape (extRot .rlc (.reg .H) s))
/-- `RLC L` (R290). -/
def execRlc_L (s : State) : Result := .next (viaEscape (extRot .rlc (.reg .L) s))
/-- `RLC (HL)` (R290). -/
def execRlc_mHL (s : State) : Result := .next (viaEscape (extRot .rlc .mHL s))
/-- `RLC A` (R290). -/
def execRlc_A (s : State) : Result := .next (viaEscape (extRot .rlc (.reg .A) s))
/-- `RRC B` (R291). -/
def execRrc_B (s : State) : Result := .next (viaEscape (extRot .rrc (.reg .B) s))
/-- `RRC C` (R291). -/
def execRrc_C (s : State) : Result := .next (viaEscape (extRot .rrc (.reg .C) s))
/-- `RRC D` (R291). -/
def execRrc_D (s : State) : Result := .next (viaEscape (extRot .rrc (.reg .D) s))
/-- `RRC E` (R291). -/
def execRrc_E (s : State) : Result := .next (viaEscape (extRot .rrc (.reg .E) s))
/-- `RRC H` (R291). -/
def execRrc_H (s : State) : Result := .next (viaEscape (extRot .rrc (.reg .H) s))
/-- `RRC L` (R291). -/
def execRrc_L (s : State) : Result := .next (viaEscape (extRot .rrc (.reg .L) s))
/-- `RRC (HL)` (R291). -/
def execRrc_mHL (s : State) : Result := .next (viaEscape (extRot .rrc .mHL s))
/-- `RRC A` (R291). -/
def execRrc_A (s : State) : Result := .next (viaEscape (extRot .rrc (.reg .A) s))
/-- `RL B` (R292). -/
def execRl_B (s : State) : Result := .next (viaEscape (extRot .rl (.reg .B) s))
/-- `RL C` (R292). -/
def execRl_C (s : State) : Result := .next (viaEscape (extRot .rl (.reg .C) s))
/-- `RL D` (R292). -/
def execRl_D (s : State) : Result := .next (viaEscape (extRot .rl (.reg .D) s))
/-- `RL E` (R292). -/
def execRl_E (s : State) : Result := .next (viaEscape (extRot .rl (.reg .E) s))
/-- `RL H` (R292). -/
def execRl_H (s : State) : Result := .next (viaEscape (extRot .rl (.reg .H) s))
/-- `RL L` (R292). -/
def execRl_L (s : State) : Result := .next (viaEscape (extRot .rl (.reg .L) s))
/-- `RL (HL)` (R292). -/
def execRl_mHL (s : State) : Result := .next (viaEscape (extRot .rl .mHL s))
/-- `RL A` (R292). -/
def execRl_A (s : State) : Result := .next (viaEscape (extRot .rl (.reg .A) s))
/-- `RR B` (R293). -/
def execRr_B (s : State) : Result := .next (viaEscape (extRot .rr (.reg .B) s))
/-- `RR C` (R293). -/
def execRr_C (s : State) : Result := .next (viaEscape (extRot .rr (.reg .C) s))
/-- `RR D` (R293). -/
def execRr_D (s : State) : Result := .next (viaEscape (extRot .rr (.reg .D) s))
/-- `RR E` (R293). -/
def execRr_E (s : State) : Result := .next (viaEscape (extRot .rr (.reg .E) s))
/-- `RR H` (R293). -/
def execRr_H (s : State) : Result := .next (viaEscape (extRot .rr (.reg .H) s))
/-- `RR L` (R293). -/
def execRr_L (s : State) : Result := .next (viaEscape (extRot .rr (.reg .L) s))
/-- `RR (HL)` (R293). -/
def execRr_mHL (s : State) : Result := .next (viaEscape (extRot .rr .mHL s))
/-- `RR A` (R293). -/
def execRr_A (s : State) : Result := .next (viaEscape (extRot .rr (.reg .A) s))
/-- `SLA B` (R294). -/
def execSla_B (s : State) : Result := .next (viaEscape (extRot .sla (.reg .B) s))
/-- `SLA C` (R294). -/
def execSla_C (s : State) : Result := .next (viaEscape (extRot .sla (.reg .C) s))
/-- `SLA D` (R294). -/
def execSla_D (s : State) : Result := .next (viaEscape (extRot .sla (.reg .D) s))
/-- `SLA E` (R294). -/
def execSla_E (s : State) : Result := .next (viaEscape (extRot .sla (.reg .E) s))
/-- `SLA H` (R294). -/
def execSla_H (s : State) : Result := .next (viaEscape (extRot .sla (.reg .H) s))
/-- `SLA L` (R294). -/
def execSla_L (s : State) : Result := .next (viaEscape (extRot .sla (.reg .L) s))
/-- `SLA (HL)` (R294). -/
def execSla_mHL (s : State) : Result := .next (viaEscape (extRot .sla .mHL s))
/-- `SLA A` (R294). -/
def execSla_A (s : State) : Result := .next (viaEscape (extRot .sla (.reg .A) s))
/-- `SRA B` (R295). -/
def execSra_B (s : State) : Result := .next (viaEscape (extRot .sra (.reg .B) s))
/-- `SRA C` (R295). -/
def execSra_C (s : State) : Result := .next (viaEscape (extRot .sra (.reg .C) s))
/-- `SRA D` (R295). -/
def execSra_D (s : State) : Result := .next (viaEscape (extRot .sra (.reg .D) s))
/-- `SRA E` (R295). -/
def execSra_E (s : State) : Result := .next (viaEscape (extRot .sra (.reg .E) s))
/-- `SRA H` (R295). -/
def execSra_H (s : State) : Result := .next (viaEscape (extRot .sra (.reg .H) s))
/-- `SRA L` (R295). -/
def execSra_L (s : State) : Result := .next (viaEscape (extRot .sra (.reg .L) s))
/-- `SRA (HL)` (R295). -/
def execSra_mHL (s : State) : Result := .next (viaEscape (extRot .sra .mHL s))
/-- `SRA A` (R295). -/
def execSra_A (s : State) : Result := .next (viaEscape (extRot .sra (.reg .A) s))
/-- `SWAP B` (R296). -/
def execSwap_B (s : State) : Result := .next (viaEscape (extRot .swap (.reg .B) s))
/-- `SWAP C` (R296). -/
def execSwap_C (s : State) : Result := .next (viaEscape (extRot .swap (.reg .C) s))
/-- `SWAP D` (R296). -/
def execSwap_D (s : State) : Result := .next (viaEscape (extRot .swap (.reg .D) s))
/-- `SWAP E` (R296). -/
def execSwap_E (s : State) : Result := .next (viaEscape (extRot .swap (.reg .E) s))
/-- `SWAP H` (R296). -/
def execSwap_H (s : State) : Result := .next (viaEscape (extRot .swap (.reg .H) s))
/-- `SWAP L` (R296). -/
def execSwap_L (s : State) : Result := .next (viaEscape (extRot .swap (.reg .L) s))
/-- `SWAP (HL)` (R296). -/
def execSwap_mHL (s : State) : Result := .next (viaEscape (extRot .swap .mHL s))
/-- `SWAP A` (R296). -/
def execSwap_A (s : State) : Result := .next (viaEscape (extRot .swap (.reg .A) s))
/-- `SRL B` (R297). -/
def execSrl_B (s : State) : Result := .next (viaEscape (extRot .srl (.reg .B) s))
/-- `SRL C` (R297). -/
def execSrl_C (s : State) : Result := .next (viaEscape (extRot .srl (.reg .C) s))
/-- `SRL D` (R297). -/
def execSrl_D (s : State) : Result := .next (viaEscape (extRot .srl (.reg .D) s))
/-- `SRL E` (R297). -/
def execSrl_E (s : State) : Result := .next (viaEscape (extRot .srl (.reg .E) s))
/-- `SRL H` (R297). -/
def execSrl_H (s : State) : Result := .next (viaEscape (extRot .srl (.reg .H) s))
/-- `SRL L` (R297). -/
def execSrl_L (s : State) : Result := .next (viaEscape (extRot .srl (.reg .L) s))
/-- `SRL (HL)` (R297). -/
def execSrl_mHL (s : State) : Result := .next (viaEscape (extRot .srl .mHL s))
/-- `SRL A` (R297). -/
def execSrl_A (s : State) : Result := .next (viaEscape (extRot .srl (.reg .A) s))
/-- `BIT 0,B` (R300). -/
def execBit_0_B (s : State) : Result := .next (viaEscape (extBit .o0 (.reg .B) s))
/-- `BIT 0,C` (R300). -/
def execBit_0_C (s : State) : Result := .next (viaEscape (extBit .o0 (.reg .C) s))
/-- `BIT 0,D` (R300). -/
def execBit_0_D (s : State) : Result := .next (viaEscape (extBit .o0 (.reg .D) s))
/-- `BIT 0,E` (R300). -/
def execBit_0_E (s : State) : Result := .next (viaEscape (extBit .o0 (.reg .E) s))
/-- `BIT 0,H` (R300). -/
def execBit_0_H (s : State) : Result := .next (viaEscape (extBit .o0 (.reg .H) s))
/-- `BIT 0,L` (R300). -/
def execBit_0_L (s : State) : Result := .next (viaEscape (extBit .o0 (.reg .L) s))
/-- `BIT 0,(HL)` (R300). -/
def execBit_0_mHL (s : State) : Result := .next (viaEscape (extBit .o0 .mHL s))
/-- `BIT 0,A` (R300). -/
def execBit_0_A (s : State) : Result := .next (viaEscape (extBit .o0 (.reg .A) s))
/-- `BIT 1,B` (R300). -/
def execBit_1_B (s : State) : Result := .next (viaEscape (extBit .o1 (.reg .B) s))
/-- `BIT 1,C` (R300). -/
def execBit_1_C (s : State) : Result := .next (viaEscape (extBit .o1 (.reg .C) s))
/-- `BIT 1,D` (R300). -/
def execBit_1_D (s : State) : Result := .next (viaEscape (extBit .o1 (.reg .D) s))
/-- `BIT 1,E` (R300). -/
def execBit_1_E (s : State) : Result := .next (viaEscape (extBit .o1 (.reg .E) s))
/-- `BIT 1,H` (R300). -/
def execBit_1_H (s : State) : Result := .next (viaEscape (extBit .o1 (.reg .H) s))
/-- `BIT 1,L` (R300). -/
def execBit_1_L (s : State) : Result := .next (viaEscape (extBit .o1 (.reg .L) s))
/-- `BIT 1,(HL)` (R300). -/
def execBit_1_mHL (s : State) : Result := .next (viaEscape (extBit .o1 .mHL s))
/-- `BIT 1,A` (R300). -/
def execBit_1_A (s : State) : Result := .next (viaEscape (extBit .o1 (.reg .A) s))
/-- `BIT 2,B` (R300). -/
def execBit_2_B (s : State) : Result := .next (viaEscape (extBit .o2 (.reg .B) s))
/-- `BIT 2,C` (R300). -/
def execBit_2_C (s : State) : Result := .next (viaEscape (extBit .o2 (.reg .C) s))
/-- `BIT 2,D` (R300). -/
def execBit_2_D (s : State) : Result := .next (viaEscape (extBit .o2 (.reg .D) s))
/-- `BIT 2,E` (R300). -/
def execBit_2_E (s : State) : Result := .next (viaEscape (extBit .o2 (.reg .E) s))
/-- `BIT 2,H` (R300). -/
def execBit_2_H (s : State) : Result := .next (viaEscape (extBit .o2 (.reg .H) s))
/-- `BIT 2,L` (R300). -/
def execBit_2_L (s : State) : Result := .next (viaEscape (extBit .o2 (.reg .L) s))
/-- `BIT 2,(HL)` (R300). -/
def execBit_2_mHL (s : State) : Result := .next (viaEscape (extBit .o2 .mHL s))
/-- `BIT 2,A` (R300). -/
def execBit_2_A (s : State) : Result := .next (viaEscape (extBit .o2 (.reg .A) s))
/-- `BIT 3,B` (R300). -/
def execBit_3_B (s : State) : Result := .next (viaEscape (extBit .o3 (.reg .B) s))
/-- `BIT 3,C` (R300). -/
def execBit_3_C (s : State) : Result := .next (viaEscape (extBit .o3 (.reg .C) s))
/-- `BIT 3,D` (R300). -/
def execBit_3_D (s : State) : Result := .next (viaEscape (extBit .o3 (.reg .D) s))
/-- `BIT 3,E` (R300). -/
def execBit_3_E (s : State) : Result := .next (viaEscape (extBit .o3 (.reg .E) s))
/-- `BIT 3,H` (R300). -/
def execBit_3_H (s : State) : Result := .next (viaEscape (extBit .o3 (.reg .H) s))
/-- `BIT 3,L` (R300). -/
def execBit_3_L (s : State) : Result := .next (viaEscape (extBit .o3 (.reg .L) s))
/-- `BIT 3,(HL)` (R300). -/
def execBit_3_mHL (s : State) : Result := .next (viaEscape (extBit .o3 .mHL s))
/-- `BIT 3,A` (R300). -/
def execBit_3_A (s : State) : Result := .next (viaEscape (extBit .o3 (.reg .A) s))
/-- `BIT 4,B` (R300). -/
def execBit_4_B (s : State) : Result := .next (viaEscape (extBit .o4 (.reg .B) s))
/-- `BIT 4,C` (R300). -/
def execBit_4_C (s : State) : Result := .next (viaEscape (extBit .o4 (.reg .C) s))
/-- `BIT 4,D` (R300). -/
def execBit_4_D (s : State) : Result := .next (viaEscape (extBit .o4 (.reg .D) s))
/-- `BIT 4,E` (R300). -/
def execBit_4_E (s : State) : Result := .next (viaEscape (extBit .o4 (.reg .E) s))
/-- `BIT 4,H` (R300). -/
def execBit_4_H (s : State) : Result := .next (viaEscape (extBit .o4 (.reg .H) s))
/-- `BIT 4,L` (R300). -/
def execBit_4_L (s : State) : Result := .next (viaEscape (extBit .o4 (.reg .L) s))
/-- `BIT 4,(HL)` (R300). -/
def execBit_4_mHL (s : State) : Result := .next (viaEscape (extBit .o4 .mHL s))
/-- `BIT 4,A` (R300). -/
def execBit_4_A (s : State) : Result := .next (viaEscape (extBit .o4 (.reg .A) s))
/-- `BIT 5,B` (R300). -/
def execBit_5_B (s : State) : Result := .next (viaEscape (extBit .o5 (.reg .B) s))
/-- `BIT 5,C` (R300). -/
def execBit_5_C (s : State) : Result := .next (viaEscape (extBit .o5 (.reg .C) s))
/-- `BIT 5,D` (R300). -/
def execBit_5_D (s : State) : Result := .next (viaEscape (extBit .o5 (.reg .D) s))
/-- `BIT 5,E` (R300). -/
def execBit_5_E (s : State) : Result := .next (viaEscape (extBit .o5 (.reg .E) s))
/-- `BIT 5,H` (R300). -/
def execBit_5_H (s : State) : Result := .next (viaEscape (extBit .o5 (.reg .H) s))
/-- `BIT 5,L` (R300). -/
def execBit_5_L (s : State) : Result := .next (viaEscape (extBit .o5 (.reg .L) s))
/-- `BIT 5,(HL)` (R300). -/
def execBit_5_mHL (s : State) : Result := .next (viaEscape (extBit .o5 .mHL s))
/-- `BIT 5,A` (R300). -/
def execBit_5_A (s : State) : Result := .next (viaEscape (extBit .o5 (.reg .A) s))
/-- `BIT 6,B` (R300). -/
def execBit_6_B (s : State) : Result := .next (viaEscape (extBit .o6 (.reg .B) s))
/-- `BIT 6,C` (R300). -/
def execBit_6_C (s : State) : Result := .next (viaEscape (extBit .o6 (.reg .C) s))
/-- `BIT 6,D` (R300). -/
def execBit_6_D (s : State) : Result := .next (viaEscape (extBit .o6 (.reg .D) s))
/-- `BIT 6,E` (R300). -/
def execBit_6_E (s : State) : Result := .next (viaEscape (extBit .o6 (.reg .E) s))
/-- `BIT 6,H` (R300). -/
def execBit_6_H (s : State) : Result := .next (viaEscape (extBit .o6 (.reg .H) s))
/-- `BIT 6,L` (R300). -/
def execBit_6_L (s : State) : Result := .next (viaEscape (extBit .o6 (.reg .L) s))
/-- `BIT 6,(HL)` (R300). -/
def execBit_6_mHL (s : State) : Result := .next (viaEscape (extBit .o6 .mHL s))
/-- `BIT 6,A` (R300). -/
def execBit_6_A (s : State) : Result := .next (viaEscape (extBit .o6 (.reg .A) s))
/-- `BIT 7,B` (R300). -/
def execBit_7_B (s : State) : Result := .next (viaEscape (extBit .o7 (.reg .B) s))
/-- `BIT 7,C` (R300). -/
def execBit_7_C (s : State) : Result := .next (viaEscape (extBit .o7 (.reg .C) s))
/-- `BIT 7,D` (R300). -/
def execBit_7_D (s : State) : Result := .next (viaEscape (extBit .o7 (.reg .D) s))
/-- `BIT 7,E` (R300). -/
def execBit_7_E (s : State) : Result := .next (viaEscape (extBit .o7 (.reg .E) s))
/-- `BIT 7,H` (R300). -/
def execBit_7_H (s : State) : Result := .next (viaEscape (extBit .o7 (.reg .H) s))
/-- `BIT 7,L` (R300). -/
def execBit_7_L (s : State) : Result := .next (viaEscape (extBit .o7 (.reg .L) s))
/-- `BIT 7,(HL)` (R300). -/
def execBit_7_mHL (s : State) : Result := .next (viaEscape (extBit .o7 .mHL s))
/-- `BIT 7,A` (R300). -/
def execBit_7_A (s : State) : Result := .next (viaEscape (extBit .o7 (.reg .A) s))
/-- `RES 0,B` (R301). -/
def execRes_0_B (s : State) : Result := .next (viaEscape (extRes .o0 (.reg .B) s))
/-- `RES 0,C` (R301). -/
def execRes_0_C (s : State) : Result := .next (viaEscape (extRes .o0 (.reg .C) s))
/-- `RES 0,D` (R301). -/
def execRes_0_D (s : State) : Result := .next (viaEscape (extRes .o0 (.reg .D) s))
/-- `RES 0,E` (R301). -/
def execRes_0_E (s : State) : Result := .next (viaEscape (extRes .o0 (.reg .E) s))
/-- `RES 0,H` (R301). -/
def execRes_0_H (s : State) : Result := .next (viaEscape (extRes .o0 (.reg .H) s))
/-- `RES 0,L` (R301). -/
def execRes_0_L (s : State) : Result := .next (viaEscape (extRes .o0 (.reg .L) s))
/-- `RES 0,(HL)` (R301). -/
def execRes_0_mHL (s : State) : Result := .next (viaEscape (extRes .o0 .mHL s))
/-- `RES 0,A` (R301). -/
def execRes_0_A (s : State) : Result := .next (viaEscape (extRes .o0 (.reg .A) s))
/-- `RES 1,B` (R301). -/
def execRes_1_B (s : State) : Result := .next (viaEscape (extRes .o1 (.reg .B) s))
/-- `RES 1,C` (R301). -/
def execRes_1_C (s : State) : Result := .next (viaEscape (extRes .o1 (.reg .C) s))
/-- `RES 1,D` (R301). -/
def execRes_1_D (s : State) : Result := .next (viaEscape (extRes .o1 (.reg .D) s))
/-- `RES 1,E` (R301). -/
def execRes_1_E (s : State) : Result := .next (viaEscape (extRes .o1 (.reg .E) s))
/-- `RES 1,H` (R301). -/
def execRes_1_H (s : State) : Result := .next (viaEscape (extRes .o1 (.reg .H) s))
/-- `RES 1,L` (R301). -/
def execRes_1_L (s : State) : Result := .next (viaEscape (extRes .o1 (.reg .L) s))
/-- `RES 1,(HL)` (R301). -/
def execRes_1_mHL (s : State) : Result := .next (viaEscape (extRes .o1 .mHL s))
/-- `RES 1,A` (R301). -/
def execRes_1_A (s : State) : Result := .next (viaEscape (extRes .o1 (.reg .A) s))
/-- `RES 2,B` (R301). -/
def execRes_2_B (s : State) : Result := .next (viaEscape (extRes .o2 (.reg .B) s))
/-- `RES 2,C` (R301). -/
def execRes_2_C (s : State) : Result := .next (viaEscape (extRes .o2 (.reg .C) s))
/-- `RES 2,D` (R301). -/
def execRes_2_D (s : State) : Result := .next (viaEscape (extRes .o2 (.reg .D) s))
/-- `RES 2,E` (R301). -/
def execRes_2_E (s : State) : Result := .next (viaEscape (extRes .o2 (.reg .E) s))
/-- `RES 2,H` (R301). -/
def execRes_2_H (s : State) : Result := .next (viaEscape (extRes .o2 (.reg .H) s))
/-- `RES 2,L` (R301). -/
def execRes_2_L (s : State) : Result := .next (viaEscape (extRes .o2 (.reg .L) s))
/-- `RES 2,(HL)` (R301). -/
def execRes_2_mHL (s : State) : Result := .next (viaEscape (extRes .o2 .mHL s))
/-- `RES 2,A` (R301). -/
def execRes_2_A (s : State) : Result := .next (viaEscape (extRes .o2 (.reg .A) s))
/-- `RES 3,B` (R301). -/
def execRes_3_B (s : State) : Result := .next (viaEscape (extRes .o3 (.reg .B) s))
/-- `RES 3,C` (R301). -/
def execRes_3_C (s : State) : Result := .next (viaEscape (extRes .o3 (.reg .C) s))
/-- `RES 3,D` (R301). -/
def execRes_3_D (s : State) : Result := .next (viaEscape (extRes .o3 (.reg .D) s))
/-- `RES 3,E` (R301). -/
def execRes_3_E (s : State) : Result := .next (viaEscape (extRes .o3 (.reg .E) s))
/-- `RES 3,H` (R301). -/
def execRes_3_H (s : State) : Result := .next (viaEscape (extRes .o3 (.reg .H) s))
/-- `RES 3,L` (R301). -/
def execRes_3_L (s : State) : Result := .next (viaEscape (extRes .o3 (.reg .L) s))
/-- `RES 3,(HL)` (R301). -/
def execRes_3_mHL (s : State) : Result := .next (viaEscape (extRes .o3 .mHL s))
/-- `RES 3,A` (R301). -/
def execRes_3_A (s : State) : Result := .next (viaEscape (extRes .o3 (.reg .A) s))
/-- `RES 4,B` (R301). -/
def execRes_4_B (s : State) : Result := .next (viaEscape (extRes .o4 (.reg .B) s))
/-- `RES 4,C` (R301). -/
def execRes_4_C (s : State) : Result := .next (viaEscape (extRes .o4 (.reg .C) s))
/-- `RES 4,D` (R301). -/
def execRes_4_D (s : State) : Result := .next (viaEscape (extRes .o4 (.reg .D) s))
/-- `RES 4,E` (R301). -/
def execRes_4_E (s : State) : Result := .next (viaEscape (extRes .o4 (.reg .E) s))
/-- `RES 4,H` (R301). -/
def execRes_4_H (s : State) : Result := .next (viaEscape (extRes .o4 (.reg .H) s))
/-- `RES 4,L` (R301). -/
def execRes_4_L (s : State) : Result := .next (viaEscape (extRes .o4 (.reg .L) s))
/-- `RES 4,(HL)` (R301). -/
def execRes_4_mHL (s : State) : Result := .next (viaEscape (extRes .o4 .mHL s))
/-- `RES 4,A` (R301). -/
def execRes_4_A (s : State) : Result := .next (viaEscape (extRes .o4 (.reg .A) s))
/-- `RES 5,B` (R301). -/
def execRes_5_B (s : State) : Result := .next (viaEscape (extRes .o5 (.reg .B) s))
/-- `RES 5,C` (R301). -/
def execRes_5_C (s : State) : Result := .next (viaEscape (extRes .o5 (.reg .C) s))
/-- `RES 5,D` (R301). -/
def execRes_5_D (s : State) : Result := .next (viaEscape (extRes .o5 (.reg .D) s))
/-- `RES 5,E` (R301). -/
def execRes_5_E (s : State) : Result := .next (viaEscape (extRes .o5 (.reg .E) s))
/-- `RES 5,H` (R301). -/
def execRes_5_H (s : State) : Result := .next (viaEscape (extRes .o5 (.reg .H) s))
/-- `RES 5,L` (R301). -/
def execRes_5_L (s : State) : Result := .next (viaEscape (extRes .o5 (.reg .L) s))
/-- `RES 5,(HL)` (R301). -/
def execRes_5_mHL (s : State) : Result := .next (viaEscape (extRes .o5 .mHL s))
/-- `RES 5,A` (R301). -/
def execRes_5_A (s : State) : Result := .next (viaEscape (extRes .o5 (.reg .A) s))
/-- `RES 6,B` (R301). -/
def execRes_6_B (s : State) : Result := .next (viaEscape (extRes .o6 (.reg .B) s))
/-- `RES 6,C` (R301). -/
def execRes_6_C (s : State) : Result := .next (viaEscape (extRes .o6 (.reg .C) s))
/-- `RES 6,D` (R301). -/
def execRes_6_D (s : State) : Result := .next (viaEscape (extRes .o6 (.reg .D) s))
/-- `RES 6,E` (R301). -/
def execRes_6_E (s : State) : Result := .next (viaEscape (extRes .o6 (.reg .E) s))
/-- `RES 6,H` (R301). -/
def execRes_6_H (s : State) : Result := .next (viaEscape (extRes .o6 (.reg .H) s))
/-- `RES 6,L` (R301). -/
def execRes_6_L (s : State) : Result := .next (viaEscape (extRes .o6 (.reg .L) s))
/-- `RES 6,(HL)` (R301). -/
def execRes_6_mHL (s : State) : Result := .next (viaEscape (extRes .o6 .mHL s))
/-- `RES 6,A` (R301). -/
def execRes_6_A (s : State) : Result := .next (viaEscape (extRes .o6 (.reg .A) s))
/-- `RES 7,B` (R301). -/
def execRes_7_B (s : State) : Result := .next (viaEscape (extRes .o7 (.reg .B) s))
/-- `RES 7,C` (R301). -/
def execRes_7_C (s : State) : Result := .next (viaEscape (extRes .o7 (.reg .C) s))
/-- `RES 7,D` (R301). -/
def execRes_7_D (s : State) : Result := .next (viaEscape (extRes .o7 (.reg .D) s))
/-- `RES 7,E` (R301). -/
def execRes_7_E (s : State) : Result := .next (viaEscape (extRes .o7 (.reg .E) s))
/-- `RES 7,H` (R301). -/
def execRes_7_H (s : State) : Result := .next (viaEscape (extRes .o7 (.reg .H) s))
/-- `RES 7,L` (R301). -/
def execRes_7_L (s : State) : Result := .next (viaEscape (extRes .o7 (.reg .L) s))
/-- `RES 7,(HL)` (R301). -/
def execRes_7_mHL (s : State) : Result := .next (viaEscape (extRes .o7 .mHL s))
/-- `RES 7,A` (R301). -/
def execRes_7_A (s : State) : Result := .next (viaEscape (extRes .o7 (.reg .A) s))
/-- `SET 0,B` (R302). -/
def execSet_0_B (s : State) : Result := .next (viaEscape (extSet .o0 (.reg .B) s))
/-- `SET 0,C` (R302). -/
def execSet_0_C (s : State) : Result := .next (viaEscape (extSet .o0 (.reg .C) s))
/-- `SET 0,D` (R302). -/
def execSet_0_D (s : State) : Result := .next (viaEscape (extSet .o0 (.reg .D) s))
/-- `SET 0,E` (R302). -/
def execSet_0_E (s : State) : Result := .next (viaEscape (extSet .o0 (.reg .E) s))
/-- `SET 0,H` (R302). -/
def execSet_0_H (s : State) : Result := .next (viaEscape (extSet .o0 (.reg .H) s))
/-- `SET 0,L` (R302). -/
def execSet_0_L (s : State) : Result := .next (viaEscape (extSet .o0 (.reg .L) s))
/-- `SET 0,(HL)` (R302). -/
def execSet_0_mHL (s : State) : Result := .next (viaEscape (extSet .o0 .mHL s))
/-- `SET 0,A` (R302). -/
def execSet_0_A (s : State) : Result := .next (viaEscape (extSet .o0 (.reg .A) s))
/-- `SET 1,B` (R302). -/
def execSet_1_B (s : State) : Result := .next (viaEscape (extSet .o1 (.reg .B) s))
/-- `SET 1,C` (R302). -/
def execSet_1_C (s : State) : Result := .next (viaEscape (extSet .o1 (.reg .C) s))
/-- `SET 1,D` (R302). -/
def execSet_1_D (s : State) : Result := .next (viaEscape (extSet .o1 (.reg .D) s))
/-- `SET 1,E` (R302). -/
def execSet_1_E (s : State) : Result := .next (viaEscape (extSet .o1 (.reg .E) s))
/-- `SET 1,H` (R302). -/
def execSet_1_H (s : State) : Result := .next (viaEscape (extSet .o1 (.reg .H) s))
/-- `SET 1,L` (R302). -/
def execSet_1_L (s : State) : Result := .next (viaEscape (extSet .o1 (.reg .L) s))
/-- `SET 1,(HL)` (R302). -/
def execSet_1_mHL (s : State) : Result := .next (viaEscape (extSet .o1 .mHL s))
/-- `SET 1,A` (R302). -/
def execSet_1_A (s : State) : Result := .next (viaEscape (extSet .o1 (.reg .A) s))
/-- `SET 2,B` (R302). -/
def execSet_2_B (s : State) : Result := .next (viaEscape (extSet .o2 (.reg .B) s))
/-- `SET 2,C` (R302). -/
def execSet_2_C (s : State) : Result := .next (viaEscape (extSet .o2 (.reg .C) s))
/-- `SET 2,D` (R302). -/
def execSet_2_D (s : State) : Result := .next (viaEscape (extSet .o2 (.reg .D) s))
/-- `SET 2,E` (R302). -/
def execSet_2_E (s : State) : Result := .next (viaEscape (extSet .o2 (.reg .E) s))
/-- `SET 2,H` (R302). -/
def execSet_2_H (s : State) : Result := .next (viaEscape (extSet .o2 (.reg .H) s))
/-- `SET 2,L` (R302). -/
def execSet_2_L (s : State) : Result := .next (viaEscape (extSet .o2 (.reg .L) s))
/-- `SET 2,(HL)` (R302). -/
def execSet_2_mHL (s : State) : Result := .next (viaEscape (extSet .o2 .mHL s))
/-- `SET 2,A` (R302). -/
def execSet_2_A (s : State) : Result := .next (viaEscape (extSet .o2 (.reg .A) s))
/-- `SET 3,B` (R302). -/
def execSet_3_B (s : State) : Result := .next (viaEscape (extSet .o3 (.reg .B) s))
/-- `SET 3,C` (R302). -/
def execSet_3_C (s : State) : Result := .next (viaEscape (extSet .o3 (.reg .C) s))
/-- `SET 3,D` (R302). -/
def execSet_3_D (s : State) : Result := .next (viaEscape (extSet .o3 (.reg .D) s))
/-- `SET 3,E` (R302). -/
def execSet_3_E (s : State) : Result := .next (viaEscape (extSet .o3 (.reg .E) s))
/-- `SET 3,H` (R302). -/
def execSet_3_H (s : State) : Result := .next (viaEscape (extSet .o3 (.reg .H) s))
/-- `SET 3,L` (R302). -/
def execSet_3_L (s : State) : Result := .next (viaEscape (extSet .o3 (.reg .L) s))
/-- `SET 3,(HL)` (R302). -/
def execSet_3_mHL (s : State) : Result := .next (viaEscape (extSet .o3 .mHL s))
/-- `SET 3,A` (R302). -/
def execSet_3_A (s : State) : Result := .next (viaEscape (extSet .o3 (.reg .A) s))
/-- `SET 4,B` (R302). -/
def execSet_4_B (s : State) : Result := .next (viaEscape (extSet .o4 (.reg .B) s))
/-- `SET 4,C` (R302). -/
def execSet_4_C (s : State) : Result := .next (viaEscape (extSet .o4 (.reg .C) s))
/-- `SET 4,D` (R302). -/
def execSet_4_D (s : State) : Result := .next (viaEscape (extSet .o4 (.reg .D) s))
/-- `SET 4,E` (R302). -/
def execSet_4_E (s : State) : Result := .next (viaEscape (extSet .o4 (.reg .E) s))
/-- `SET 4,H` (R302). -/
def execSet_4_H (s : State) : Result := .next (viaEscape (extSet .o4 (.reg .H) s))
/-- `SET 4,L` (R302). -/
def execSet_4_L (s : State) : Result := .next (viaEscape (extSet .o4 (.reg .L) s))
/-- `SET 4,(HL)` (R302). -/
def execSet_4_mHL (s : State) : Result := .next (viaEscape (extSet .o4 .mHL s))
/-- `SET 4,A` (R302). -/
def execSet_4_A (s : State) : Result := .next (viaEscape (extSet .o4 (.reg .A) s))
/-- `SET 5,B` (R302). -/
def execSet_5_B (s : State) : Result := .next (viaEscape (extSet .o5 (.reg .B) s))
/-- `SET 5,C` (R302). -/
def execSet_5_C (s : State) : Result := .next (viaEscape (extSet .o5 (.reg .C) s))
/-- `SET 5,D` (R302). -/
def execSet_5_D (s : State) : Result := .next (viaEscape (extSet .o5 (.reg .D) s))
/-- `SET 5,E` (R302). -/
def execSet_5_E (s : State) : Result := .next (viaEscape (extSet .o5 (.reg .E) s))
/-- `SET 5,H` (R302). -/
def execSet_5_H (s : State) : Result := .next (viaEscape (extSet .o5 (.reg .H) s))
/-- `SET 5,L` (R302). -/
def execSet_5_L (s : State) : Result := .next (viaEscape (extSet .o5 (.reg .L) s))
/-- `SET 5,(HL)` (R302). -/
def execSet_5_mHL (s : State) : Result := .next (viaEscape (extSet .o5 .mHL s))
/-- `SET 5,A` (R302). -/
def execSet_5_A (s : State) : Result := .next (viaEscape (extSet .o5 (.reg .A) s))
/-- `SET 6,B` (R302). -/
def execSet_6_B (s : State) : Result := .next (viaEscape (extSet .o6 (.reg .B) s))
/-- `SET 6,C` (R302). -/
def execSet_6_C (s : State) : Result := .next (viaEscape (extSet .o6 (.reg .C) s))
/-- `SET 6,D` (R302). -/
def execSet_6_D (s : State) : Result := .next (viaEscape (extSet .o6 (.reg .D) s))
/-- `SET 6,E` (R302). -/
def execSet_6_E (s : State) : Result := .next (viaEscape (extSet .o6 (.reg .E) s))
/-- `SET 6,H` (R302). -/
def execSet_6_H (s : State) : Result := .next (viaEscape (extSet .o6 (.reg .H) s))
/-- `SET 6,L` (R302). -/
def execSet_6_L (s : State) : Result := .next (viaEscape (extSet .o6 (.reg .L) s))
/-- `SET 6,(HL)` (R302). -/
def execSet_6_mHL (s : State) : Result := .next (viaEscape (extSet .o6 .mHL s))
/-- `SET 6,A` (R302). -/
def execSet_6_A (s : State) : Result := .next (viaEscape (extSet .o6 (.reg .A) s))
/-- `SET 7,B` (R302). -/
def execSet_7_B (s : State) : Result := .next (viaEscape (extSet .o7 (.reg .B) s))
/-- `SET 7,C` (R302). -/
def execSet_7_C (s : State) : Result := .next (viaEscape (extSet .o7 (.reg .C) s))
/-- `SET 7,D` (R302). -/
def execSet_7_D (s : State) : Result := .next (viaEscape (extSet .o7 (.reg .D) s))
/-- `SET 7,E` (R302). -/
def execSet_7_E (s : State) : Result := .next (viaEscape (extSet .o7 (.reg .E) s))
/-- `SET 7,H` (R302). -/
def execSet_7_H (s : State) : Result := .next (viaEscape (extSet .o7 (.reg .H) s))
/-- `SET 7,L` (R302). -/
def execSet_7_L (s : State) : Result := .next (viaEscape (extSet .o7 (.reg .L) s))
/-- `SET 7,(HL)` (R302). -/
def execSet_7_mHL (s : State) : Result := .next (viaEscape (extSet .o7 .mHL s))
/-- `SET 7,A` (R302). -/
def execSet_7_A (s : State) : Result := .next (viaEscape (extSet .o7 (.reg .A) s))

end Sys2Proof.Machine
end

