-- ==== Sys2Proof/Machine/Cpu.lean ====
section
/-! DEFINITION. Machine/Cpu.lean: CPU control, the escape opcode and the invalid bytes (45_cpu_control.md R270 to
R276). -/

namespace Sys2Proof.Machine

/-! ### The forms -/

/-- NOP (R270). -/
def doNop (s : State) : State := s.took Config.cycNop

/-- HALT (R271). -/
def doHalt (s : State) : State := State.took 4 { s with halted := true }

/-- STOP (R272). -/
def doStop (s : State) : State := State.took 4 { s with halted := true, stopped := true }

/-- DI, at once (R273). -/
def doDi (s : State) : State := State.took 4 { s with ime := false }

/-- EI, at once (R274). -/
def doEi (s : State) : State := State.took 4 { s with ime := true }

/-! ### The instructions -/

/-- `PREFIX`, the escape handler: the extended handler's count plus the escape's (R275). An extended byte with no
handler is the error, before any change (R341). -/
def execEscape (e : Byte) (s : State) : Result :=
  match executeExtended e s with
  | .next t => .next (viaEscape t)
  | r => r

/-- An invalid primary byte: the error, and no change of state (R276, R340, R341). -/
def execInvalid (op : Byte) (_s : State) : Result := .fault (.invalidOpcode .primary op)

/-- `NOP` (R270). -/
def execNop (s : State) : Result := .next (doNop s)
/-- `STOP` (R272). -/
def execStop (s : State) : Result := .next (doStop s)
/-- `HALT` (R271). -/
def execHalt (s : State) : Result := .next (doHalt s)
/-- `DI` (R273). -/
def execDi (s : State) : Result := .next (doDi s)
/-- `EI` (R274). -/
def execEi (s : State) : Result := .next (doEi s)

end Sys2Proof.Machine
end

