-- ==== Sys2Proof/Machine/Load16.lean ====
section
/-! DEFINITION. Machine/Load16.lean: the 16-bit loads, PUSH and POP (41_load16_stack.md R160 to R174). -/

namespace Sys2Proof.Machine

/-! ### The forms -/

/-- `LD rp,nn` (R161). -/
def doLdPairImm (rp : Pair) (nn : Word) (s : State) : State := (s.setPair rp nn).took Config.cycLdPairImm

/-- `LD SP,HL` (R162). -/
def doLdSPHL (s : State) : State := (s.setPair .SP s.hl).took Config.cycLdSpHl

/-- `LD (nn),SP`: the low byte at nn, then the high byte (R163). -/
def doLdAbsSP (nn : Word) (s : State) : State := (s.write16 nn s.sp).took Config.cycLdAbsSp

/-- `LD HL,SP+d`: Z and N cleared, H and C from the unsigned low-byte addition; SP unchanged (R164). -/
def doLdHLSP (d : Byte) (s : State) : State :=
  let k := spOffsetCarries s.sp d
  ((s.setFlags false false k.1 k.2).setHL (s.sp + sext16 d)).took Config.cycLdHlSp

/-- `PUSH rp2` (R170, R171). -/
def doPush (rp2 : StackPair) (s : State) : State := (s.push16 (s.getStackPair rp2)).took 16

/-- `POP rp2` (R172, R173). -/
def doPop (rp2 : StackPair) (s : State) : State :=
  let r := s.pop16
  (r.2.setStackPair rp2 r.1).took 12

/-! ### The instructions -/

/-- `LD BC,nn` (R161). -/
def execLd_BC_nn (nn : Word) (s : State) : Result := .next (doLdPairImm .BC nn s)
/-- `LD (nn),SP` (R163). -/
def execLd_mnn_SP (nn : Word) (s : State) : Result := .next (doLdAbsSP nn s)
/-- `LD DE,nn` (R161). -/
def execLd_DE_nn (nn : Word) (s : State) : Result := .next (doLdPairImm .DE nn s)
/-- `LD HL,nn` (R161). -/
def execLd_HL_nn (nn : Word) (s : State) : Result := .next (doLdPairImm .HL nn s)
/-- `LD SP,nn` (R161). -/
def execLd_SP_nn (nn : Word) (s : State) : Result := .next (doLdPairImm .SP nn s)
/-- `POP BC` (R172). -/
def execPop_BC (s : State) : Result := .next (doPop .BC s)
/-- `PUSH BC` (R170). -/
def execPush_BC (s : State) : Result := .next (doPush .BC s)
/-- `POP DE` (R172). -/
def execPop_DE (s : State) : Result := .next (doPop .DE s)
/-- `PUSH DE` (R170). -/
def execPush_DE (s : State) : Result := .next (doPush .DE s)
/-- `POP HL` (R172). -/
def execPop_HL (s : State) : Result := .next (doPop .HL s)
/-- `PUSH HL` (R170). -/
def execPush_HL (s : State) : Result := .next (doPush .HL s)
/-- `POP AF` (R173). -/
def execPop_AF (s : State) : Result := .next (doPop .AF s)
/-- `PUSH AF` (R171). -/
def execPush_AF (s : State) : Result := .next (doPush .AF s)
/-- `LD HL,SP+d` (R164). -/
def execLd_HL_SPd (d : Byte) (s : State) : Result := .next (doLdHLSP d s)
/-- `LD SP,HL` (R162). -/
def execLd_SP_HL (s : State) : Result := .next (doLdSPHL s)

end Sys2Proof.Machine
end

