-- ==== Sys2Proof/Machine/Load8.lean ====
section
/-! DEFINITION. Machine/Load8.lean: the 8-bit loads (40_load8.md R130 to R149). No flag is written. PC is
already past the instruction (10_state.md R27). -/

namespace Sys2Proof.Machine

/-! ### The forms -/

/-- `LD r,r'`: `x[r] <- x[r']` (R131). -/
def doLdRegReg (d r : Reg8) (s : State) : State := (s.setReg d (s.getReg r)).took 4

/-- `LD r,n` (R132). -/
def doLdRegImm (d : Reg8) (n : Byte) (s : State) : State := (s.setReg d n).took 8

/-- `LD r,(HL)`: the address is formed before the write (R133). -/
def doLdRegMem (d : Reg8) (s : State) : State :=
  let r := s.readByte s.hl
  (r.2.setReg d r.1).took 8

/-- `LD (HL),r` (R134). -/
def doLdMemReg (r : Reg8) (s : State) : State := (s.writeByte s.hl (s.getReg r)).took 8

/-- `LD (HL),n` (R135). -/
def doLdMemImm (n : Byte) (s : State) : State := (s.writeByte s.hl n).took 12

/-- A load of A from an address. -/
def loadA (a : Word) (s : State) : State :=
  let r := s.readByte a
  r.2.setReg .A r.1

/-- `LD A,(BC)`, `LD A,(DE)` (R136, R137). -/
def doLdAPtr (p : PtrPair) (s : State) : State := (loadA (s.getPtr p) s).took 8

/-- `LD (BC),A`, `LD (DE),A` (R138, R139). -/
def doLdPtrA (p : PtrPair) (s : State) : State := (s.writeByte (s.getPtr p) s.a).took 8

/-- `LD A,(nn)` (R140). -/
def doLdAAbs (nn : Word) (s : State) : State := (loadA nn s).took 16

/-- `LD (nn),A` (R141). -/
def doLdAbsA (nn : Word) (s : State) : State := (s.writeByte nn s.a).took 16

/-- `LDH A,(n)` (R142). -/
def doLdhAImm (n : Byte) (s : State) : State := (loadA (ioPage n) s).took 12

/-- `LDH (n),A` (R143). -/
def doLdhImmA (n : Byte) (s : State) : State := (s.writeByte (ioPage n) s.a).took 12

/-- `LD A,(C)` (R144). -/
def doLdAIoC (s : State) : State := (loadA (ioPage s.c) s).took 8

/-- `LD (C),A` (R145). -/
def doLdIoCA (s : State) : State := (s.writeByte (ioPage s.c) s.a).took 8

/-- `LD (HL+),A`: the store, then HL + 1 (R146). -/
def doLdIncA (s : State) : State :=
  ((s.writeByte s.hl s.a).setHL (s.hl + 1)).took Config.cycLdHlMod

/-- `LD A,(HL+)`: the load, then HL + 1 (R147). -/
def doLdAInc (s : State) : State :=
  ((loadA s.hl s).setHL (s.hl + 1)).took Config.cycLdHlMod

/-- `LD (HL-),A`: the store, then HL - 1 (R148). -/
def doLdDecA (s : State) : State :=
  ((s.writeByte s.hl s.a).setHL (s.hl - 1)).took Config.cycLdHlMod

/-- `LD A,(HL-)`: the load, then HL - 1 (R149). -/
def doLdADec (s : State) : State :=
  ((loadA s.hl s).setHL (s.hl - 1)).took Config.cycLdHlMod

/-! ### The instructions -/

/-- `LD (BC),A` (R138). -/
def execLd_mBC_A (s : State) : Result := .next (doLdPtrA .BC s)
/-- `LD B,n` (R132). -/
def execLd_B_n (n : Byte) (s : State) : Result := .next (doLdRegImm .B n s)
/-- `LD A,(BC)` (R136). -/
def execLd_A_mBC (s : State) : Result := .next (doLdAPtr .BC s)
/-- `LD C,n` (R132). -/
def execLd_C_n (n : Byte) (s : State) : Result := .next (doLdRegImm .C n s)
/-- `LD (DE),A` (R139). -/
def execLd_mDE_A (s : State) : Result := .next (doLdPtrA .DE s)
/-- `LD D,n` (R132). -/
def execLd_D_n (n : Byte) (s : State) : Result := .next (doLdRegImm .D n s)
/-- `LD A,(DE)` (R137). -/
def execLd_A_mDE (s : State) : Result := .next (doLdAPtr .DE s)
/-- `LD E,n` (R132). -/
def execLd_E_n (n : Byte) (s : State) : Result := .next (doLdRegImm .E n s)
/-- `LD (HL+),A` (R146). -/
def execLd_mHLI_A (s : State) : Result := .next (doLdIncA s)
/-- `LD H,n` (R132). -/
def execLd_H_n (n : Byte) (s : State) : Result := .next (doLdRegImm .H n s)
/-- `LD A,(HL+)` (R147). -/
def execLd_A_mHLI (s : State) : Result := .next (doLdAInc s)
/-- `LD L,n` (R132). -/
def execLd_L_n (n : Byte) (s : State) : Result := .next (doLdRegImm .L n s)
/-- `LD (HL-),A` (R148). -/
def execLd_mHLD_A (s : State) : Result := .next (doLdDecA s)
/-- `LD (HL),n` (R135). -/
def execLd_mHL_n (n : Byte) (s : State) : Result := .next (doLdMemImm n s)
/-- `LD A,(HL-)` (R149). -/
def execLd_A_mHLD (s : State) : Result := .next (doLdADec s)
/-- `LD A,n` (R132). -/
def execLd_A_n (n : Byte) (s : State) : Result := .next (doLdRegImm .A n s)
/-- `LD B,B` (R131). -/
def execLd_B_B (s : State) : Result := .next (doLdRegReg .B .B s)
/-- `LD B,C` (R131). -/
def execLd_B_C (s : State) : Result := .next (doLdRegReg .B .C s)
/-- `LD B,D` (R131). -/
def execLd_B_D (s : State) : Result := .next (doLdRegReg .B .D s)
/-- `LD B,E` (R131). -/
def execLd_B_E (s : State) : Result := .next (doLdRegReg .B .E s)
/-- `LD B,H` (R131). -/
def execLd_B_H (s : State) : Result := .next (doLdRegReg .B .H s)
/-- `LD B,L` (R131). -/
def execLd_B_L (s : State) : Result := .next (doLdRegReg .B .L s)
/-- `LD B,(HL)` (R133). -/
def execLd_B_mHL (s : State) : Result := .next (doLdRegMem .B s)
/-- `LD B,A` (R131). -/
def execLd_B_A (s : State) : Result := .next (doLdRegReg .B .A s)
/-- `LD C,B` (R131). -/
def execLd_C_B (s : State) : Result := .next (doLdRegReg .C .B s)
/-- `LD C,C` (R131). -/
def execLd_C_C (s : State) : Result := .next (doLdRegReg .C .C s)
/-- `LD C,D` (R131). -/
def execLd_C_D (s : State) : Result := .next (doLdRegReg .C .D s)
/-- `LD C,E` (R131). -/
def execLd_C_E (s : State) : Result := .next (doLdRegReg .C .E s)
/-- `LD C,H` (R131). -/
def execLd_C_H (s : State) : Result := .next (doLdRegReg .C .H s)
/-- `LD C,L` (R131). -/
def execLd_C_L (s : State) : Result := .next (doLdRegReg .C .L s)
/-- `LD C,(HL)` (R133). -/
def execLd_C_mHL (s : State) : Result := .next (doLdRegMem .C s)
/-- `LD C,A` (R131). -/
def execLd_C_A (s : State) : Result := .next (doLdRegReg .C .A s)
/-- `LD D,B` (R131). -/
def execLd_D_B (s : State) : Result := .next (doLdRegReg .D .B s)
/-- `LD D,C` (R131). -/
def execLd_D_C (s : State) : Result := .next (doLdRegReg .D .C s)
/-- `LD D,D` (R131). -/
def execLd_D_D (s : State) : Result := .next (doLdRegReg .D .D s)
/-- `LD D,E` (R131). -/
def execLd_D_E (s : State) : Result := .next (doLdRegReg .D .E s)
/-- `LD D,H` (R131). -/
def execLd_D_H (s : State) : Result := .next (doLdRegReg .D .H s)
/-- `LD D,L` (R131). -/
def execLd_D_L (s : State) : Result := .next (doLdRegReg .D .L s)
/-- `LD D,(HL)` (R133). -/
def execLd_D_mHL (s : State) : Result := .next (doLdRegMem .D s)
/-- `LD D,A` (R131). -/
def execLd_D_A (s : State) : Result := .next (doLdRegReg .D .A s)
/-- `LD E,B` (R131). -/
def execLd_E_B (s : State) : Result := .next (doLdRegReg .E .B s)
/-- `LD E,C` (R131). -/
def execLd_E_C (s : State) : Result := .next (doLdRegReg .E .C s)
/-- `LD E,D` (R131). -/
def execLd_E_D (s : State) : Result := .next (doLdRegReg .E .D s)
/-- `LD E,E` (R131). -/
def execLd_E_E (s : State) : Result := .next (doLdRegReg .E .E s)
/-- `LD E,H` (R131). -/
def execLd_E_H (s : State) : Result := .next (doLdRegReg .E .H s)
/-- `LD E,L` (R131). -/
def execLd_E_L (s : State) : Result := .next (doLdRegReg .E .L s)
/-- `LD E,(HL)` (R133). -/
def execLd_E_mHL (s : State) : Result := .next (doLdRegMem .E s)
/-- `LD E,A` (R131). -/
def execLd_E_A (s : State) : Result := .next (doLdRegReg .E .A s)
/-- `LD H,B` (R131). -/
def execLd_H_B (s : State) : Result := .next (doLdRegReg .H .B s)
/-- `LD H,C` (R131). -/
def execLd_H_C (s : State) : Result := .next (doLdRegReg .H .C s)
/-- `LD H,D` (R131). -/
def execLd_H_D (s : State) : Result := .next (doLdRegReg .H .D s)
/-- `LD H,E` (R131). -/
def execLd_H_E (s : State) : Result := .next (doLdRegReg .H .E s)
/-- `LD H,H` (R131). -/
def execLd_H_H (s : State) : Result := .next (doLdRegReg .H .H s)
/-- `LD H,L` (R131). -/
def execLd_H_L (s : State) : Result := .next (doLdRegReg .H .L s)
/-- `LD H,(HL)` (R133). -/
def execLd_H_mHL (s : State) : Result := .next (doLdRegMem .H s)
/-- `LD H,A` (R131). -/
def execLd_H_A (s : State) : Result := .next (doLdRegReg .H .A s)
/-- `LD L,B` (R131). -/
def execLd_L_B (s : State) : Result := .next (doLdRegReg .L .B s)
/-- `LD L,C` (R131). -/
def execLd_L_C (s : State) : Result := .next (doLdRegReg .L .C s)
/-- `LD L,D` (R131). -/
def execLd_L_D (s : State) : Result := .next (doLdRegReg .L .D s)
/-- `LD L,E` (R131). -/
def execLd_L_E (s : State) : Result := .next (doLdRegReg .L .E s)
/-- `LD L,H` (R131). -/
def execLd_L_H (s : State) : Result := .next (doLdRegReg .L .H s)
/-- `LD L,L` (R131). -/
def execLd_L_L (s : State) : Result := .next (doLdRegReg .L .L s)
/-- `LD L,(HL)` (R133). -/
def execLd_L_mHL (s : State) : Result := .next (doLdRegMem .L s)
/-- `LD L,A` (R131). -/
def execLd_L_A (s : State) : Result := .next (doLdRegReg .L .A s)
/-- `LD (HL),B` (R134). -/
def execLd_mHL_B (s : State) : Result := .next (doLdMemReg .B s)
/-- `LD (HL),C` (R134). -/
def execLd_mHL_C (s : State) : Result := .next (doLdMemReg .C s)
/-- `LD (HL),D` (R134). -/
def execLd_mHL_D (s : State) : Result := .next (doLdMemReg .D s)
/-- `LD (HL),E` (R134). -/
def execLd_mHL_E (s : State) : Result := .next (doLdMemReg .E s)
/-- `LD (HL),H` (R134). -/
def execLd_mHL_H (s : State) : Result := .next (doLdMemReg .H s)
/-- `LD (HL),L` (R134). -/
def execLd_mHL_L (s : State) : Result := .next (doLdMemReg .L s)
/-- `LD (HL),A` (R134). -/
def execLd_mHL_A (s : State) : Result := .next (doLdMemReg .A s)
/-- `LD A,B` (R131). -/
def execLd_A_B (s : State) : Result := .next (doLdRegReg .A .B s)
/-- `LD A,C` (R131). -/
def execLd_A_C (s : State) : Result := .next (doLdRegReg .A .C s)
/-- `LD A,D` (R131). -/
def execLd_A_D (s : State) : Result := .next (doLdRegReg .A .D s)
/-- `LD A,E` (R131). -/
def execLd_A_E (s : State) : Result := .next (doLdRegReg .A .E s)
/-- `LD A,H` (R131). -/
def execLd_A_H (s : State) : Result := .next (doLdRegReg .A .H s)
/-- `LD A,L` (R131). -/
def execLd_A_L (s : State) : Result := .next (doLdRegReg .A .L s)
/-- `LD A,(HL)` (R133). -/
def execLd_A_mHL (s : State) : Result := .next (doLdRegMem .A s)
/-- `LD A,A` (R131). -/
def execLd_A_A (s : State) : Result := .next (doLdRegReg .A .A s)
/-- `LDH (n),A` (R143). -/
def execLdh_mn_A (n : Byte) (s : State) : Result := .next (doLdhImmA n s)
/-- `LD (C),A` (R145). -/
def execLd_mC_A (s : State) : Result := .next (doLdIoCA s)
/-- `LD (nn),A` (R141). -/
def execLd_mnn_A (nn : Word) (s : State) : Result := .next (doLdAbsA nn s)
/-- `LDH A,(n)` (R142). -/
def execLdh_A_mn (n : Byte) (s : State) : Result := .next (doLdhAImm n s)
/-- `LD A,(C)` (R144). -/
def execLd_A_mC (s : State) : Result := .next (doLdAIoC s)
/-- `LD A,(nn)` (R140). -/
def execLd_A_mnn (nn : Word) (s : State) : Result := .next (doLdAAbs nn s)

end Sys2Proof.Machine
end

