-- ==== Sys2Proof/Machine/Sequence.lean ====
section
/-! DEFINITION. Machine/Sequence.lean: the entry point `Execute` (47_dispatch.md R320), the fetch stage (R331),
the sequence of a Step (R330), the input events between Steps, the introspection queries (R325), and the
placing of an instruction where the next fetch reads it. -/

namespace Sys2Proof.Machine

/-! ### Execute -/

/-- `Execute(opcode, immediates)`: the error on an empty slot, else the meaning the slot and the immediates give
(R320). It reads neither `halted` nor `stopped` (R321). Another number of immediates than the format has is
outside the spec (D32). -/
def execute (op : Byte) (immediates : List Byte) (s : State) : Result :=
  match primarySlot op, immediates with
  | .inv, _ => exec (.invalid op) s
  | .op f, [] => exec f.toInstr s
  | .pad f, [] => exec f.toInstr s
  | .opN k, [n] => exec (k n).toInstr s
  | .opNN k, [l, h] => exec (k (joinBytes h l)).toInstr s
  | .esc, [e] => exec (.escape e) s
  | _, _ => .refused .immediateCount

/-! ### The fetch stage -/

/-- `MemRead(pc,1); pc <- (pc+1) mod 65536` (R331). -/
def State.fetchByte (s : State) : Byte × State :=
  let r := s.readByte s.pc
  (r.1, { r.2 with pc := r.2.pc + 1 })

/-- Bytes that are read and ignored (30_encoding.md R105). -/
def State.skipBytes : Nat → State → State
  | 0, s => s
  | k + 1, s => State.skipBytes k s.fetchByte.2

/-- The fetch stage: the instruction at PC, and the state its meaning starts in. An opcode of an empty slot, primary
or extended, leaves PC at its first byte (R331 steps 2 and 4); the instruction is then one that faults. -/
def State.fetch (s : State) : Instr × State :=
  let r1 := s.fetchByte
  let op := r1.1
  let s1 := r1.2
  match primarySlot op with
  | .inv => (.invalid op, { s1 with pc := s.pc })
  | .op f => (f.toInstr, s1)
  | .opN k => ((k s1.fetchByte.1).toInstr, s1.fetchByte.2)
  | .opNN k =>
    let r2 := s1.fetchByte
    let r3 := r2.2.fetchByte
    ((k (joinBytes r3.1 r2.1)).toInstr, r3.2)
  | .pad f => (f.toInstr, s1.skipBytes (Config.stopLength - 1))
  | .esc =>
    let r2 := s1.fetchByte
    if r2.1 ∈ Config.unimplExtended then (.escape r2.1, { r2.2 with pc := s.pc })
    else (extendedInstr r2.1, r2.2)

/-- Step 4 of R330: fetch and execute one instruction. -/
def fetchAndExecute (s : State) : Result :=
  let r := s.fetch
  exec r.1 r.2

/-! ### The Step -/

/-- The outputs of the operation before are gone: no access made yet, no count yet. -/
def State.clearOutputs (s : State) : State := { s with cycles := 0, trace := [] }

/-- `Step()` (R330). -/
def stepSequence (s : State) : Result :=
  let s0 := s.clearOutputs
  if s0.stopped then .next (s0.took Config.stopIdleCycles)
  else match serviceable s0 with
    | some i => .next (takeInterrupt i s0)
    | none =>
      if s0.halted then
        if haltWake s0 then fetchAndExecute { s0 with halted := false }
        else .next (s0.took Config.haltIdleCycles)
      else fetchAndExecute s0

/-! ### What the environment does between Steps (47_dispatch.md R332, 20_memory.md R75) -/

/-- `Reset()`: every piece of CORE's state at its reset value, IE and IF through the controller port; memory and
what else the environment holds unchanged; no access and no count (70_reset_and_hazards.md R380). -/
def resetEvent (s : State) : State :=
  State.setIF 0xE0 (State.setIE 0x00
    { State.reset with
      ieReg := s.ieReg, ifReg := s.ifReg, mem := s.mem, env := s.env, deviceReads := s.deviceReads })

/-- The `StopWake` input (60_exceptions.md R362). -/
def stopWake (s : State) : State :=
  if s.stopped then { s with stopped := false, halted := false } else s

/-- The input events of a run. -/
inductive EnvEvent where
  /-- `Reset` (R380). -/
  | reset
  /-- `StopWake` (R362). -/
  | stopWake
  /-- A device requests an interrupt (R347). -/
  | request (i : IrqType)
  /-- Something clears a pending bit (R347). -/
  | clear (i : IrqType)
  /-- The environment writes the enable mask (R345). -/
  | setIE (v : Byte)
  /-- The environment writes the pending flags (R345). -/
  | setIF (v : Byte)
  /-- Another agent changes a cell of memory (R75). -/
  | poke (a : Word) (v : Byte)
deriving DecidableEq, Repr

/-- The effect of an input event. -/
def applyEvent (e : EnvEvent) (s : State) : State :=
  match e with
  | .reset => resetEvent s
  | .stopWake => stopWake s
  | .request i => s.requestIrq i
  | .clear i => s.clearIrq i
  | .setIE v => s.setIE v
  | .setIF v => s.setIF v
  | .poke a v => { s with mem := Memory.store s.mem a.toNat v }

/-! ### Introspection (47_dispatch.md R325) -/

/-- `IsImplemented`. -/
def isImplemented (t : OpTable) (b : Byte) : Bool :=
  match t with
  | .primary => !(Config.invalidPrimary.contains b || Config.unimplPrimary.contains b)
  | .extended => !Config.unimplExtended.contains b

/-- The list query: the implemented bytes of a table, ascending. -/
def implementedBytes (t : OpTable) : List Byte :=
  ((List.range 256).map (BitVec.ofNat 8)).filter (isImplemented t)

/-- The name of a register. -/
def regName : Reg8 → String
  | .B => "B" | .C => "C" | .D => "D" | .E => "E" | .H => "H" | .L => "L" | .A => "A"

/-- The name of an 8-bit operand. -/
def operandName : Operand8 → String
  | .reg r => regName r
  | .mHL => "(HL)"

/-- The name of a pair of the set BC, DE, HL, SP. -/
def pairName : Pair → String
  | .BC => "BC" | .DE => "DE" | .HL => "HL" | .SP => "SP"

/-- The name of a pair of the set BC, DE, HL, AF. -/
def stackPairName : StackPair → String
  | .BC => "BC" | .DE => "DE" | .HL => "HL" | .AF => "AF"

/-- The name of a pointer pair. -/
def ptrName : PtrPair → String
  | .BC => "(BC)" | .DE => "(DE)"

/-- The name of a condition. -/
def condName : Cond → String
  | .NZ => "NZ" | .Z => "Z" | .NC => "NC" | .C => "C"

/-- The name of an accumulator operation, `A,` written for ADD, ADC, SBC (30_encoding.md R107). -/
def aluName : AluOp → String
  | .add => "ADD A," | .adc => "ADC A," | .sub => "SUB " | .sbc => "SBC A,"
  | .and => "AND " | .xor => "XOR " | .or => "OR " | .cp => "CP "

/-- The name of an accumulator rotate. -/
def accRotName : AccRot → String
  | .rlca => "RLCA" | .rrca => "RRCA" | .rla => "RLA" | .rra => "RRA"

/-- The name of an extended rotate, shift or swap. -/
def rotName : RotOp → String
  | .rlc => "RLC" | .rrc => "RRC" | .rl => "RL" | .rr => "RR"
  | .sla => "SLA" | .sra => "SRA" | .swap => "SWAP" | .srl => "SRL"

/-- A bit number as a digit. -/
def octName : Oct → String
  | .o0 => "0" | .o1 => "1" | .o2 => "2" | .o3 => "3" | .o4 => "4" | .o5 => "5" | .o6 => "6" | .o7 => "7"

/-- An RST target in hexadecimal. -/
def rstName : Oct → String
  | .o0 => "0x00" | .o1 => "0x08" | .o2 => "0x10" | .o3 => "0x18"
  | .o4 => "0x20" | .o5 => "0x28" | .o6 => "0x30" | .o7 => "0x38"

/-- The mnemonic of an extended form. -/
def extMnemonic : ExtForm → String
  | .rot op o => rotName op ++ " " ++ operandName o
  | .bit b o => "BIT " ++ octName b ++ "," ++ operandName o
  | .res b o => "RES " ++ octName b ++ "," ++ operandName o
  | .set b o => "SET " ++ octName b ++ "," ++ operandName o

/-- The canonical spelling of an instruction (R107); immediates by their letter. -/
def formMnemonic : Form → String
  | .nop => "NOP" | .halt => "HALT" | .stop => "STOP" | .di => "DI" | .ei => "EI"
  | .escape _ => "PREFIX"
  | .invalid _ => "INVALID"
  | .ldRegReg d r => "LD " ++ regName d ++ "," ++ regName r
  | .ldRegImm d _ => "LD " ++ regName d ++ ",n"
  | .ldRegMem d => "LD " ++ regName d ++ ",(HL)"
  | .ldMemReg r => "LD (HL)," ++ regName r
  | .ldMemImm _ => "LD (HL),n"
  | .ldAPtr p => "LD A," ++ ptrName p
  | .ldPtrA p => "LD " ++ ptrName p ++ ",A"
  | .ldAAbs _ => "LD A,(nn)"
  | .ldAbsA _ => "LD (nn),A"
  | .ldhAImm _ => "LDH A,(n)"
  | .ldhImmA _ => "LDH (n),A"
  | .ldAIoC => "LD A,(C)"
  | .ldIoCA => "LD (C),A"
  | .ldIncA => "LD (HL+),A"
  | .ldAInc => "LD A,(HL+)"
  | .ldDecA => "LD (HL-),A"
  | .ldADec => "LD A,(HL-)"
  | .ldPairImm rp _ => "LD " ++ pairName rp ++ ",nn"
  | .ldSPHL => "LD SP,HL"
  | .ldAbsSP _ => "LD (nn),SP"
  | .ldHLSP _ => "LD HL,SP+d"
  | .push rp2 => "PUSH " ++ stackPairName rp2
  | .pop rp2 => "POP " ++ stackPairName rp2
  | .inc8 o => "INC " ++ operandName o
  | .dec8 o => "DEC " ++ operandName o
  | .alu op o => aluName op ++ operandName o
  | .aluImm op _ => aluName op ++ "n"
  | .accRot k => accRotName k
  | .daa => "DAA" | .cpl => "CPL" | .scf => "SCF" | .ccf => "CCF"
  | .addHL rp => "ADD HL," ++ pairName rp
  | .addSP _ => "ADD SP,d"
  | .incPair rp => "INC " ++ pairName rp
  | .decPair rp => "DEC " ++ pairName rp
  | .jp _ => "JP nn"
  | .jpCond cc _ => "JP " ++ condName cc ++ ",nn"
  | .jpHL => "JP (HL)"
  | .jr _ => "JR d"
  | .jrCond cc _ => "JR " ++ condName cc ++ ",d"
  | .call _ => "CALL nn"
  | .callCond cc _ => "CALL " ++ condName cc ++ ",nn"
  | .ret => "RET"
  | .retCond cc => "RET " ++ condName cc
  | .reti => "RETI"
  | .rst t => "RST " ++ rstName t
  | .ext x => extMnemonic x

/-- The mnemonic of a slot of the primary table; none for an empty slot (log 7). -/
def slotMnemonic : Slot → Option String
  | .op f => some (formMnemonic f)
  | .pad f => some (formMnemonic f)
  | .opN k => some (formMnemonic (k 0))
  | .opNN k => some (formMnemonic (k 0))
  | .esc => some "PREFIX"
  | .inv => none

/-- The mnemonic lookup, as spec/opcode_table.json spells it; none for an empty slot (log 7). -/
def mnemonicOf (t : OpTable) (b : Byte) : Option String :=
  match t with
  | .primary => slotMnemonic (primarySlot b)
  | .extended => if isImplemented .extended b then some (extMnemonic (extendedForm b)) else none

/-! ### Placing an instruction -/

/-- Bytes stored at ascending addresses modulo 65536, past the memory port. -/
def State.placeBytes (a : Word) : List Byte → State → State
  | [], s => s
  | v :: vs, s => State.placeBytes (a + 1) vs { s with mem := Memory.store s.mem a.toNat v }

/-- Whether a read of the cell returns the stored byte. -/
def State.isStorage (s : State) (a : Word) : Bool :=
  match s.kindAt a with
  | .ram => true
  | .rom => true
  | _ => false

/-- Make a cell plain RAM where it is not storage. -/
def State.makeStorage (a : Word) (s : State) : State :=
  if s.isStorage a then s else { s with env := { lo := a.toNat, hi := a.toNat, kind := .ram } :: s.env }

/-- The bytes placed at PC, in storage, with nothing that keeps the next Step from fetching them: not stopped, not
halted, and IME cleared where an interrupt would be serviced first. -/
def State.placeAtFetch (bytes : List Byte) (s : State) : State :=
  let s1 := ((s.makeStorage s.pc).makeStorage (s.pc + 1)).makeStorage (s.pc + 2)
  let s2 := s1.placeBytes s1.pc bytes
  { s2 with halted := false, stopped := false, ime := if (serviceable s2).isSome then false else s2.ime }

end Sys2Proof.Machine
end

