-- ==== Sys2Proof/Machine/Step.lean ====
section
/-! DEFINITION. Machine/Step.lean: one Step of the machine (47_dispatch.md R330). -/

namespace Sys2Proof.Machine

/-- `Step()` (R330). -/
def step (s : State) : Host.Outcome State Fault Refusal := stepSequence s

/-- The state with the instruction of a word of the opcode table where the next Step fetches (log 5, 8). -/
def State.withFetchWord (s : State) (nbits w : Nat) : State := s.placeAtFetch (tableWordBytes nbits w)

end Sys2Proof.Machine
end

