-- ==== Sys2Proof/Safety.lean ====
section
/-! DEFINITION. Safety.lean: the terms claims are made in: the invariant of every reachable state, and the
spec's own summary tables over the instructions: operand codes (30_encoding.md R94 to R100), flags written
(10_state.md R33), registers written, accesses on the memory port (20_memory.md R68), cycles
(70_reset_and_hazards.md R401). The tables are written from the spec's tables, not from the meanings. -/

namespace Sys2Proof.Machine

/-! ### The invariant -/

/-- Memory is in its canonical form; the padding of F is zero (R31); IF[7:5] are ones (R40); a stopped core is
halted (R36, R37: STOP sets both, `StopWake` clears both). -/
abbrev State.Inv (s : State) : Prop :=
  Memory.wf s.mem = true ∧ s.f &&& 0x0F = 0 ∧ s.ifReg &&& 0xE0 = 0xE0 ∧ (s.stopped = true → s.halted = true)

/-- The next Step fetches: not stopped, not halted, no interrupt to service first (47_dispatch.md R330). -/
abbrev State.FetchesNext (s : State) : Prop :=
  s.stopped = false ∧ s.halted = false ∧ serviceable s = none

/-- The environment says that a cell stores bytes and gives them back (20_memory.md R62). -/
abbrev State.IsRam (s : State) (a : Word) : Prop := s.kindAt a = .ram

end Sys2Proof.Machine

namespace Sys2Proof

/-! ### The codes of the operand fields -/

/-- R94. -/
def Reg8.code : Reg8 → Nat
  | .B => 0 | .C => 1 | .D => 2 | .E => 3 | .H => 4 | .L => 5 | .A => 7

/-- R94. -/
def Operand8.code : Operand8 → Nat
  | .reg r => r.code
  | .mHL => 6

/-- R95. -/
def Pair.code : Pair → Nat
  | .BC => 0 | .DE => 1 | .HL => 2 | .SP => 3

/-- R95. -/
def StackPair.code : StackPair → Nat
  | .BC => 0 | .DE => 1 | .HL => 2 | .AF => 3

/-- R96. -/
def Cond.code : Cond → Nat
  | .NZ => 0 | .Z => 1 | .NC => 2 | .C => 3

/-- R98. -/
def AluOp.code : AluOp → Nat
  | .add => 0 | .adc => 1 | .sub => 2 | .sbc => 3 | .and => 4 | .xor => 5 | .or => 6 | .cp => 7

/-- R99. -/
def RotOp.code : RotOp → Nat
  | .rlc => 0 | .rrc => 1 | .rl => 2 | .rr => 3 | .sla => 4 | .sra => 5 | .swap => 6 | .srl => 7

/-- The extended operation an accumulator rotate does on A, but for Zero (42_alu8.md R200 to R203). -/
def AccRot.asRot : AccRot → RotOp
  | .rlca => .rlc | .rrca => .rrc | .rla => .rl | .rra => .rr

/-- An opcode byte from its fields: x*64 + y*8 + z (R93). -/
def opByte (x y z : Nat) : Byte := BitVec.ofNat 8 (x * 64 + y * 8 + z)

/-! ### Registers written -/

/-- The halves of a pair. -/
def Pair.holds : Pair → Reg8 → Bool
  | .BC, .B | .BC, .C | .DE, .D | .DE, .E | .HL, .H | .HL, .L => true
  | _, _ => false

/-- The general registers of a stack pair; F is not one of them. -/
def StackPair.holds : StackPair → Reg8 → Bool
  | .BC, .B | .BC, .C | .DE, .D | .DE, .E | .HL, .H | .HL, .L | .AF, .A => true
  | _, _ => false

/-- The general registers an extended instruction writes: its operand, but for BIT (46_extended.md R289). -/
def ExtForm.writesReg : ExtForm → Reg8 → Bool
  | .rot _ o, r | .res _ o, r | .set _ o, r => o == .reg r
  | .bit _ _, _ => false

/-- The general registers an instruction writes (the Operation of its rule). -/
def Form.writesReg (f : Form) (r : Reg8) : Bool :=
  match f with
  | .ldRegReg d _ | .ldRegImm d _ | .ldRegMem d => d == r
  | .ldAPtr _ | .ldAAbs _ | .ldhAImm _ | .ldAIoC => r == .A
  | .ldIncA | .ldDecA => r == .H || r == .L
  | .ldAInc | .ldADec => r == .A || r == .H || r == .L
  | .ldPairImm rp _ | .incPair rp | .decPair rp => rp.holds r
  | .ldHLSP _ | .addHL _ => r == .H || r == .L
  | .pop rp2 => rp2.holds r
  | .inc8 o | .dec8 o => o == .reg r
  | .alu op _ | .aluImm op _ => r == .A && op != .cp
  | .accRot _ | .daa | .cpl => r == .A
  | .ext x => x.writesReg r
  | .escape e => (extendedForm e).writesReg r
  | .nop | .halt | .stop | .di | .ei | .invalid _ | .ldMemReg _ | .ldMemImm _ | .ldPtrA _ | .ldAbsA _
  | .ldhImmA _ | .ldIoCA | .ldSPHL | .ldAbsSP _ | .push _ | .scf | .ccf | .addSP _ | .jp _ | .jpCond _ _
  | .jpHL | .jr _ | .jrCond _ _ | .call _ | .callCond _ _ | .ret | .retCond _ | .reti | .rst _ => false

/-- The instructions that write SP (10_state.md R26). -/
def Form.writesSP : Form → Bool
  | .ldPairImm rp _ | .incPair rp | .decPair rp => rp == .SP
  | .ldSPHL | .addSP _ | .push _ | .pop _ | .call _ | .callCond _ _ | .ret | .retCond _ | .reti
  | .rst _ => true
  | .nop | .halt | .stop | .di | .ei | .escape _ | .invalid _ | .ldRegReg _ _ | .ldRegImm _ _ | .ldRegMem _
  | .ldMemReg _ | .ldMemImm _ | .ldAPtr _ | .ldPtrA _ | .ldAAbs _ | .ldAbsA _ | .ldhAImm _ | .ldhImmA _
  | .ldAIoC | .ldIoCA | .ldIncA | .ldAInc | .ldDecA | .ldADec | .ldAbsSP _ | .ldHLSP _ | .inc8 _ | .dec8 _
  | .alu _ _ | .aluImm _ _ | .accRot _ | .daa | .cpl | .scf | .ccf | .addHL _ | .jp _ | .jpCond _ _ | .jpHL
  | .jr _ | .jrCond _ _ | .ext _ => false

/-- The control transfers: the only instructions that write PC (10_state.md R27). -/
def Form.writesPC : Form → Bool
  | .jp _ | .jpCond _ _ | .jpHL | .jr _ | .jrCond _ _ | .call _ | .callCond _ _ | .ret | .retCond _
  | .reti | .rst _ => true
  | .nop | .halt | .stop | .di | .ei | .escape _ | .invalid _ | .ldRegReg _ _ | .ldRegImm _ _ | .ldRegMem _
  | .ldMemReg _ | .ldMemImm _ | .ldAPtr _ | .ldPtrA _ | .ldAAbs _ | .ldAbsA _ | .ldhAImm _ | .ldhImmA _
  | .ldAIoC | .ldIoCA | .ldIncA | .ldAInc | .ldDecA | .ldADec | .ldPairImm _ _ | .ldSPHL | .ldAbsSP _
  | .ldHLSP _ | .push _ | .pop _ | .inc8 _ | .dec8 _ | .alu _ _ | .aluImm _ _ | .accRot _ | .daa | .cpl | .scf
  | .ccf | .addHL _ | .addSP _ | .incPair _ | .decPair _ | .ext _ => false

/-- What an instruction leaves IME as, where it writes it (10_state.md R38). -/
def Form.imeAfter : Form → Bool → Bool
  | .ei, _ | .reti, _ => true
  | .di, _ => false
  | _, b => b

/-- HALT and STOP set `halted` (R36). -/
def Form.haltedAfter : Form → Bool → Bool
  | .halt, _ | .stop, _ => true
  | _, b => b

/-- STOP sets `stopped` (R37). -/
def Form.stoppedAfter : Form → Bool → Bool
  | .stop, _ => true
  | _, b => b

/-! ### Flags written (R33) -/

/-- An entry of the flag table: "-", "0" or "1", or "r". -/
inductive FlagEntry where
  | keep
  | force (b : Bool)
  | result
deriving DecidableEq, Repr

/-- A row of the flag table, in the order fZ, fN, fH, fC. -/
structure FlagRow where
  z : FlagEntry
  n : FlagEntry
  h : FlagEntry
  c : FlagEntry
deriving DecidableEq, Repr

/-- The entry of a flag in a row. -/
def FlagRow.entry (w : FlagRow) : Flag → FlagEntry
  | .zero => w.z | .subtract => w.n | .halfCarry => w.h | .carry => w.c

/-- The row that leaves every flag as it was. -/
def FlagRow.untouched : FlagRow := ⟨.keep, .keep, .keep, .keep⟩

/-- The rows of the accumulator operations. -/
def AluOp.flagRow : AluOp → FlagRow
  | .add | .adc => ⟨.result, .force false, .result, .result⟩
  | .sub | .sbc | .cp => ⟨.result, .force true, .result, .result⟩
  | .and => ⟨.result, .force false, .force true, .force false⟩
  | .xor | .or => ⟨.result, .force false, .force false, .force false⟩

/-- The rows of the extended instructions. -/
def ExtForm.flagRow : ExtForm → FlagRow
  | .rot .swap _ => ⟨.result, .force false, .force false, .force false⟩
  | .rot _ _ => ⟨.result, .force false, .force false, .result⟩
  | .bit _ _ => ⟨.result, .force false, .force true, .keep⟩
  | .res _ _ | .set _ _ => .untouched

/-- The row of POP: R33's row is POP AF's. -/
def StackPair.popFlagRow : StackPair → FlagRow
  | .AF => ⟨.result, .result, .result, .result⟩
  | .BC | .DE | .HL => .untouched

/-- The flag table of R33. -/
def Form.flagRow : Form → FlagRow
  | .ldHLSP _ | .addSP _ => ⟨.force false, .force false, .result, .result⟩
  | .pop rp2 => rp2.popFlagRow
  | .inc8 _ => ⟨.result, .force false, .result, .keep⟩
  | .dec8 _ => ⟨.result, .force true, .result, .keep⟩
  | .alu op _ | .aluImm op _ => op.flagRow
  | .accRot _ => ⟨.force false, .force false, .force false, .result⟩
  | .daa => ⟨.result, .keep, .force false, .result⟩
  | .cpl => ⟨.keep, .force true, .force true, .keep⟩
  | .scf => ⟨.keep, .force false, .force false, .force true⟩
  | .ccf => ⟨.keep, .force false, .force false, .result⟩
  | .addHL _ => ⟨.keep, .force false, .result, .result⟩
  | .ext x => x.flagRow
  | .escape e => (extendedForm e).flagRow
  | .nop | .halt | .stop | .di | .ei | .invalid _ | .ldRegReg _ _ | .ldRegImm _ _ | .ldRegMem _
  | .ldMemReg _ | .ldMemImm _ | .ldAPtr _ | .ldPtrA _ | .ldAAbs _ | .ldAbsA _ | .ldhAImm _ | .ldhImmA _
  | .ldAIoC | .ldIoCA | .ldIncA | .ldAInc | .ldDecA | .ldADec | .ldPairImm _ _ | .ldSPHL | .ldAbsSP _
  | .push _ | .incPair _ | .decPair _ | .jp _ | .jpCond _ _ | .jpHL | .jr _ | .jrCond _ _ | .call _
  | .callCond _ _ | .ret | .retCond _ | .reti | .rst _ => .untouched

/-- What an entry of the table says of a flag before and after. -/
def FlagEntry.Allows : FlagEntry → Bool → Bool → Prop
  | .keep, before, after => after = before
  | .force b, _, after => after = b
  | .result, _, _ => True

/-! ### Accesses on the memory port (R68) -/

/-- "R a" or "W a". -/
inductive Access where
  | rd (a : Word)
  | wr (a : Word)
deriving DecidableEq, Repr

end Sys2Proof

namespace Sys2Proof.Machine

/-- The direction and address of an access on the port. -/
def PortAccess.toAccess : PortAccess → Access
  | .read a _ => .rd a
  | .write a _ => .wr a

/-- "R a" for an operand in memory, nothing for a register. -/
def readsOf (o : Operand8) (s : State) : List Access :=
  match o with
  | .reg _ => []
  | .mHL => [.rd s.hl]

/-- "R a, W a" for an operand in memory. -/
def readsWritesOf (o : Operand8) (s : State) : List Access :=
  match o with
  | .reg _ => []
  | .mHL => [.rd s.hl, .wr s.hl]

/-- W SP-1 (high byte), W SP-2 (low byte). -/
def pushAccesses (s : State) : List Access := [.wr (s.sp - 1), .wr (s.sp - 2)]

/-- R SP (low byte), R SP+1 (high byte). -/
def popAccesses (s : State) : List Access := [.rd s.sp, .rd (s.sp + 1)]

/-- The rows of the extended instructions. -/
def extAccessRow (x : ExtForm) (s : State) : List Access :=
  match x with
  | .rot _ o | .res _ o | .set _ o => readsWritesOf o s
  | .bit _ o => readsOf o s

/-- The access table of R68. -/
def accessRow (f : Form) (s : State) : List Access :=
  match f with
  | .ldRegMem _ => [.rd s.hl]
  | .ldMemReg _ | .ldMemImm _ | .ldIncA | .ldDecA => [.wr s.hl]
  | .ldAInc | .ldADec => [.rd s.hl]
  | .ldAPtr p => [.rd (s.getPtr p)]
  | .ldPtrA p => [.wr (s.getPtr p)]
  | .ldAAbs nn => [.rd nn]
  | .ldAbsA nn => [.wr nn]
  | .ldhAImm n => [.rd (ioPage n)]
  | .ldhImmA n => [.wr (ioPage n)]
  | .ldAIoC => [.rd (ioPage s.c)]
  | .ldIoCA => [.wr (ioPage s.c)]
  | .ldAbsSP nn => [.wr nn, .wr (nn + 1)]
  | .push _ | .call _ | .rst _ => pushAccesses s
  | .callCond cc _ => if s.cond cc then pushAccesses s else []
  | .pop _ | .ret | .reti => popAccesses s
  | .retCond cc => if s.cond cc then popAccesses s else []
  | .inc8 o | .dec8 o => readsWritesOf o s
  | .alu _ o => readsOf o s
  | .ext x => extAccessRow x s
  | .escape e => extAccessRow (extendedForm e) s
  | .nop | .halt | .stop | .di | .ei | .invalid _ | .ldRegReg _ _ | .ldRegImm _ _ | .ldPairImm _ _ | .ldSPHL
  | .ldHLSP _ | .aluImm _ _ | .accRot _ | .daa | .cpl | .scf | .ccf | .addHL _ | .addSP _ | .incPair _
  | .decPair _ | .jp _ | .jpCond _ _ | .jpHL | .jr _ | .jrCond _ _ => []

/-- The addresses an instruction stores to, in order: the writes of its row of R68. -/
def storedAt (f : Form) (s : State) : List Word :=
  (accessRow f s).filterMap fun
    | .rd _ => none
    | .wr a => some a

/-! ### Cycles (R401) -/

/-- The counts of the extended handlers, as `ExecuteExtended` returns them. -/
def extCycleRow : ExtForm → Nat
  | .rot _ o | .res _ o | .set _ o => costOf o 8 16
  | .bit _ o => costOf o 8 12

/-- The cycle table of R401. -/
def cycleRow (f : Form) (s : State) : Nat :=
  match f with
  | .nop | .halt | .stop | .di | .ei => 4
  | .ldRegReg _ _ => 4
  | .ldRegImm _ _ | .ldRegMem _ | .ldMemReg _ | .ldAPtr _ | .ldPtrA _ | .ldAIoC | .ldIoCA => 8
  | .ldIncA | .ldAInc | .ldDecA | .ldADec => 8
  | .ldMemImm _ | .ldhAImm _ | .ldhImmA _ => 12
  | .ldAAbs _ | .ldAbsA _ => 16
  | .ldPairImm _ _ => 12
  | .ldSPHL => 8
  | .ldAbsSP _ => 20
  | .ldHLSP _ => 12
  | .push _ => 16
  | .pop _ => 12
  | .inc8 o | .dec8 o => costOf o 4 12
  | .alu _ o => costOf o 4 8
  | .aluImm _ _ => 8
  | .accRot _ | .daa | .cpl | .scf | .ccf => 4
  | .addHL _ | .incPair _ | .decPair _ => 8
  | .addSP _ => 16
  | .jp _ => 16
  | .jpCond cc _ => if s.cond cc then 16 else 12
  | .jpHL => 4
  | .jr _ => 12
  | .jrCond cc _ => if s.cond cc then 12 else 8
  | .call _ => 24
  | .callCond cc _ => if s.cond cc then 24 else 12
  | .ret => 16
  | .retCond cc => if s.cond cc then 20 else 8
  | .reti => 16
  | .rst _ => 16
  | .ext x => extCycleRow x + 4
  | .escape e => extCycleRow (extendedForm e) + 4
  | .invalid _ => 0

/-! ### Results as the rules write them: on naturals and integers, reduced at the end -/

/-- A and the flags after `a + v + c` (42_alu8.md R186, R187). -/
def afterSum (a v : Byte) (c : Nat) (s : State) : State :=
  let t := a.toNat + v.toNat + c
  (s.setFlags (decide (t % 256 = 0)) false (decide (a.toNat % 16 + v.toNat % 16 + c > 0xF))
    (decide (t > 0xFF))).setReg .A (BitVec.ofNat 8 (t % 256))

/-- The flags after `a - v - c` (R188, R189, R193). -/
def flagsAfterDifference (a v : Byte) (c : Nat) (s : State) : State :=
  s.setFlags (decide (((a.toNat : Int) - v.toNat - c) % 256 = 0)) true
    (decide (a.toNat % 16 < v.toNat % 16 + c)) (decide (a.toNat < v.toNat + c))

/-- A and the flags after `a - v - c` (R188, R189). -/
def afterDifference (a v : Byte) (c : Nat) (s : State) : State :=
  (flagsAfterDifference a v c s).setReg .A (BitVec.ofInt 8 ((a.toNat : Int) - v.toNat - c))

/-- A and the flags after a logical operation with result w and Half-carry h (R190 to R192). -/
def afterLogic (w : Byte) (h : Bool) (s : State) : State :=
  (s.setFlags (decide (w.toNat = 0)) false h false).setReg .A w

/-- The operand after a rotate, a shift or SWAP, as a number (46_extended.md R290 to R297); c is the incoming
Carry. -/
def rotatedNat (op : RotOp) (v c : Nat) : Nat :=
  match op with
  | .rlc => v * 2 % 256 + v / 128
  | .rrc => v / 2 + v % 2 * 128
  | .rl => v * 2 % 256 + c
  | .rr => v / 2 + c * 128
  | .sla => v * 2 % 256
  | .sra => v / 2 + v / 128 * 128
  | .swap => v * 16 % 256 + v / 16
  | .srl => v / 2

/-- The outgoing Carry of a rotate, a shift or SWAP: the bit rotated out, or 0 (R290 to R297). -/
def rotatedOut (op : RotOp) (v : Nat) : Bool :=
  match op with
  | .rlc | .rl | .sla => decide (v / 128 = 1)
  | .rrc | .rr | .sra | .srl => decide (v % 2 = 1)
  | .swap => false

/-- The accumulator DAA leaves (42_alu8.md R205), from A and the flags N, H, C. -/
def daaNat (a : Nat) (n h c : Bool) : Nat :=
  if n = false then
    (a + (if h = true ∨ a % 16 > 9 then 0x06 else 0) + (if c = true ∨ a > 0x99 then 0x60 else 0)) % 256
  else
    (a + 512 - (if h = true then 0x06 else 0) - (if c = true then 0x60 else 0)) % 256

/-- The Carry DAA leaves (R205): set where an addition needed the high correction, else as it was. -/
def daaCarry (a : Nat) (n c : Bool) : Bool :=
  c || (!n && decide (a > 0x99))

end Sys2Proof.Machine
end

