-- ==== Sys2Proof/Certificates/Slice0/Obligations.lean ====
section
/-! DEFINITION. Certificates/Slice0/Obligations.lean: the statements for the provers. Each docstring names the
rule of spec/ it formalises; "the environment" is what stands behind the memory port (20_memory.md R62). -/

open Sys2Proof Sys2Proof.Machine

/-! ### Encoding -/

/-- Decoding the bytes the encoder gives a well-formed instruction gives it back, every operand with it, and leaves
what follows (30_encoding.md R91 to R106; byte values: spec's own, G2 to G5). -/
def Obligations.EncodedInstructionsDecode : Prop :=
  ∀ (i : Instr) (rest : List Byte), WellFormed i = true → decode (encode i ++ rest) = .ok (i, rest)

/-- Bytes that decode are the bytes of a well-formed instruction and what follows it, but for STOP, whose padding may
be any byte (R105). -/
def Obligations.DecodedBytesAreTheEncoding : Prop :=
  ∀ (bytes : List Byte) (i : Instr) (rest : List Byte), decode bytes = .ok (i, rest) →
    WellFormed i = true ∧ (i ≠ .stop → encode i ++ rest = bytes) ∧
    (i = .stop → ∃ pad : Byte, 0x10 :: pad :: rest = bytes)

/-- Words written out from the spec's encodings (examples of files 40 to 46). -/
def Obligations.WordsOfTheSpecDecode : Prop :=
  decode [0x3E, 0x42] = .ok (.ld_A_n 0x42, []) ∧
  decode [0x08, 0x00, 0xC1] = .ok (.ld_mnn_SP 0xC100, []) ∧
  decode [0x36, 0x99] = .ok (.ld_mHL_n 0x99, []) ∧
  decode [0x9C] = .ok (.sbc_A_H, []) ∧
  decode [0x39] = .ok (.add_HL_SP, []) ∧
  decode [0xD4, 0x34, 0x12] = .ok (.call_NC_nn 0x1234, []) ∧
  decode [0xEF] = .ok (.rst_28, []) ∧
  decode [0xF1] = .ok (.pop_AF, []) ∧
  decode [0xF2] = .ok (.ld_A_mC, []) ∧
  decode [0x76] = .ok (.halt, []) ∧
  decode [0x10, 0x55] = .ok (.stop, []) ∧
  decode [0xCB, 0x7E] = .ok (.bit_7_mHL, []) ∧
  decode [0xCB, 0xCB] = .ok (.set_1_E, []) ∧
  decode [0xCB, 0x2F] = .ok (.sra_A, []) ∧
  decode [0xED] = .ok (.invalid 0xED, [])

/-- The bytes of the instructions with operand fields, from the codes of the fields: byte 0 is x*64 + y*8 + z, immediates
follow, the low byte first (30_encoding.md R93 to R101, R106; every byte value is the spec's own decision D3). -/
def Obligations.EncodingsFromTheirFields : Prop :=
  ∀ (d r : Reg8) (o : Operand8) (rp : Pair) (rp2 : StackPair) (cc : Cond) (op : AluOp) (k : RotOp) (b : Oct) (n : Byte)
    (nn : Word),
    let low : Byte := BitVec.ofNat 8 nn.toNat
    let high : Byte := BitVec.ofNat 8 (nn.toNat / 256)
    encode (Form.ldRegReg d r).toInstr = [opByte 1 d.code r.code] ∧
    encode (Form.ldRegMem d).toInstr = [opByte 1 d.code 6] ∧
    encode (Form.ldMemReg r).toInstr = [opByte 1 6 r.code] ∧
    encode (Form.ldRegImm d n).toInstr = [opByte 0 d.code 6, n] ∧
    encode (Form.ldPairImm rp nn).toInstr = [opByte 0 (2 * rp.code) 1, low, high] ∧
    encode (Form.addHL rp).toInstr = [opByte 0 (2 * rp.code + 1) 1] ∧
    encode (Form.incPair rp).toInstr = [opByte 0 (2 * rp.code) 3] ∧
    encode (Form.decPair rp).toInstr = [opByte 0 (2 * rp.code + 1) 3] ∧
    encode (Form.inc8 o).toInstr = [opByte 0 o.code 4] ∧
    encode (Form.dec8 o).toInstr = [opByte 0 o.code 5] ∧
    encode (Form.pop rp2).toInstr = [opByte 3 (2 * rp2.code) 1] ∧
    encode (Form.push rp2).toInstr = [opByte 3 (2 * rp2.code) 5] ∧
    encode (Form.alu op o).toInstr = [opByte 2 op.code o.code] ∧
    encode (Form.aluImm op n).toInstr = [opByte 3 op.code 6, n] ∧
    encode (Form.jrCond cc n).toInstr = [opByte 0 (4 + cc.code) 0, n] ∧
    encode (Form.retCond cc).toInstr = [opByte 3 cc.code 0] ∧
    encode (Form.jpCond cc nn).toInstr = [opByte 3 cc.code 2, low, high] ∧
    encode (Form.callCond cc nn).toInstr = [opByte 3 cc.code 4, low, high] ∧
    encode (Form.rst b).toInstr = [opByte 3 b.toNat 7] ∧
    encode (Form.ext (.rot k o)).toInstr = [0xCB, opByte 0 k.code o.code] ∧
    encode (Form.ext (.bit b o)).toInstr = [0xCB, opByte 1 b.toNat o.code] ∧
    encode (Form.ext (.res b o)).toInstr = [0xCB, opByte 2 b.toNat o.code] ∧
    encode (Form.ext (.set b o)).toInstr = [0xCB, opByte 3 b.toNat o.code]

/-- A decoded instruction takes the bytes its first byte's slot says, and every byte is an instruction, the escape, or
one of the bytes without a handler (R92, R102, R104). The length is that of opcode_table.json (log 9). -/
def Obligations.ByteZeroGivesTheLength : Prop :=
  (∀ op : Byte, primarySlot op = .inv ↔ op ∈ Config.invalidPrimary) ∧
  (∀ op : Byte, primarySlot op = .esc ↔ op = 0xCB) ∧
  (∀ (op : Byte) (rest : List Byte), (primarySlot op).length ≤ rest.length + 1 →
    ∃ i, decode (op :: rest) = .ok (i, rest.drop ((primarySlot op).length - 1))) ∧
  (∀ (op : Byte) (rest : List Byte), rest.length + 1 < (primarySlot op).length →
    decode (op :: rest) = .error .truncated)

/-! ### State -/

/-- A pair is its two bytes, the first the high one, and writing it writes both, and nothing else; writing AF masks the low
nibble of F (10_state.md R23). -/
def Obligations.PairsAreTheirTwoBytes : Prop :=
  ∀ (s : State) (v : Word),
    (s.getPair .BC).toNat = s.b.toNat * 256 + s.c.toNat ∧
    (s.getPair .DE).toNat = s.d.toNat * 256 + s.e.toNat ∧
    (s.getPair .HL).toNat = s.h.toNat * 256 + s.l.toNat ∧
    (s.getStackPair .AF).toNat = s.a.toNat * 256 + s.readF.toNat ∧
    s.setPair .BC v = { s with b := BitVec.ofNat 8 (v.toNat / 256), c := BitVec.ofNat 8 v.toNat } ∧
    s.setPair .DE v = { s with d := BitVec.ofNat 8 (v.toNat / 256), e := BitVec.ofNat 8 v.toNat } ∧
    s.setPair .HL v = { s with h := BitVec.ofNat 8 (v.toNat / 256), l := BitVec.ofNat 8 v.toNat } ∧
    (∀ rp, (s.setPair rp v).getPair rp = v) ∧
    s.setStackPair .AF v =
      { s with a := BitVec.ofNat 8 (v.toNat / 256), f := BitVec.ofNat 8 v.toNat &&& 0xF0 } ∧
    s.setStackPair .BC v = s.setPair .BC v ∧ s.setStackPair .DE v = s.setPair .DE v ∧
    s.setStackPair .HL v = s.setPair .HL v

/-- SetFlag writes only the flags byte and only the addressed bit (10_state.md R32); the flags stand at bits 7 to 4
and the byte image has its low nibble zero (R30, bit positions: the spec's own decision D8). -/
def Obligations.FlagLayerWritesOneBit : Prop :=
  ∀ (s : State) (fl : Flag) (v : Bool),
    (s.setFlag fl v).getFlag fl = v ∧
    (∀ gl, gl ≠ fl → (s.setFlag fl v).getFlag gl = s.getFlag gl) ∧
    (s.setFlag fl v).f &&& 0x0F = s.f &&& 0x0F ∧
    s.setFlag fl v = { s with f := (s.setFlag fl v).f } ∧
    s.readF.toNat = bit01 (s.f.getLsbD 7) * 128 + bit01 (s.f.getLsbD 6) * 64 + bit01 (s.f.getLsbD 5) * 32 +
      bit01 (s.f.getLsbD 4) * 16

/-! ### The memory port -/

/-- In a cell the environment declares RAM, a read returns the last byte written, and a write to one address leaves
what every other RAM address reads as (20_memory.md R60 to R62). -/
def Obligations.RamReadsWhatWasWritten : Prop :=
  ∀ (s : State) (a b : Word) (v : Byte), Memory.wf s.mem = true → s.IsRam a → s.IsRam b →
    ((s.writeByte a v).readByte a).1 = v ∧
    (b ≠ a → ((s.writeByte a v).readByte b).1 = (s.readByte b).1)

/-- A read changes no state of CORE, no stored byte and no controller bit; it is one access on the port (R60, R70). -/
def Obligations.ReadsChangeNothingStored : Prop :=
  ∀ (s : State) (a : Word),
    (s.readByte a).2 =
      { s with
        deviceReads := if s.kindAt a = .device then s.deviceReads + 1 else s.deviceReads
        trace := s.trace ++ [.read a (s.readByte a).1] }

/-- The canonical form is canonical: memories that read alike at every address are the same data (the model's own
representation, log 3). -/
def Obligations.EqualContentsAreEqualMemories : Prop :=
  ∀ m n : Memory, Memory.wf m = true → Memory.wf n = true →
    (∀ a, a < 65536 → Memory.read m a = Memory.read n a) → m = n

/-! ### 8-bit loads (40_load8.md) -/

/-- `LD r,r'` and `LD r,n` (R131, R132). -/
def Obligations.LoadRegisterOrImmediate : Prop :=
  ∀ (s : State) (d r : Reg8) (n : Byte),
    exec (Form.ldRegReg d r).toInstr s = .next { s.setReg d (s.getReg r) with cycles := 4 } ∧
    exec (Form.ldRegImm d n).toInstr s = .next { s.setReg d n with cycles := 8 }

/-- `LD r,(HL)`, `LD (HL),r` and `LD (HL),n` (R133, R134, R135). -/
def Obligations.LoadAndStoreAtHL : Prop :=
  ∀ (s : State) (r : Reg8) (n : Byte),
    exec (Form.ldRegMem r).toInstr s =
      .next { (s.readByte s.hl).2.setReg r (s.readByte s.hl).1 with cycles := 8 } ∧
    exec (Form.ldMemReg r).toInstr s = .next { s.writeByte s.hl (s.getReg r) with cycles := 8 } ∧
    exec (Form.ldMemImm n).toInstr s = .next { s.writeByte s.hl n with cycles := 12 }

/-- The loads and stores of A through BC, DE and an absolute address (R136 to R141). -/
def Obligations.AccumulatorThroughPointers : Prop :=
  ∀ (s : State) (nn : Word),
    exec .ld_A_mBC s = .next { (s.readByte s.bc).2 with a := (s.readByte s.bc).1, cycles := 8 } ∧
    exec .ld_A_mDE s = .next { (s.readByte s.de).2 with a := (s.readByte s.de).1, cycles := 8 } ∧
    exec .ld_mBC_A s = .next { s.writeByte s.bc s.a with cycles := 8 } ∧
    exec .ld_mDE_A s = .next { s.writeByte s.de s.a with cycles := 8 } ∧
    exec (.ld_A_mnn nn) s = .next { (s.readByte nn).2 with a := (s.readByte nn).1, cycles := 16 } ∧
    exec (.ld_mnn_A nn) s = .next { s.writeByte nn s.a with cycles := 16 }

/-- The loads and stores of A in the I/O page: the address is 0xFF00 + offset (R142 to R145). -/
def Obligations.AccumulatorThroughTheIoPage : Prop :=
  ∀ (s : State) (n : Byte) (a : Word),
    (a.toNat = 0xFF00 + n.toNat →
      exec (.ldh_A_mn n) s = .next { (s.readByte a).2 with a := (s.readByte a).1, cycles := 12 } ∧
      exec (.ldh_mn_A n) s = .next { s.writeByte a s.a with cycles := 12 }) ∧
    (a.toNat = 0xFF00 + s.c.toNat →
      exec .ld_A_mC s = .next { (s.readByte a).2 with a := (s.readByte a).1, cycles := 8 } ∧
      exec .ld_mC_A s = .next { s.writeByte a s.a with cycles := 8 })

/-- The loads and stores of A through HL, which is then incremented or decremented modulo 65536 (R146 to R149: the
spec's own, decision D5). -/
def Obligations.AccumulatorThroughHLPostModified : Prop :=
  ∀ (s : State),
    exec .ld_mHLI_A s = .next { (s.writeByte s.hl s.a).setHL (s.hl + 1) with cycles := 8 } ∧
    exec .ld_mHLD_A s = .next { (s.writeByte s.hl s.a).setHL (s.hl - 1) with cycles := 8 } ∧
    exec .ld_A_mHLI s =
      .next { (s.readByte s.hl).2.setHL (s.hl + 1) with a := (s.readByte s.hl).1, cycles := 8 } ∧
    exec .ld_A_mHLD s =
      .next { (s.readByte s.hl).2.setHL (s.hl - 1) with a := (s.readByte s.hl).1, cycles := 8 }

/-! ### 16-bit loads and the stack (41_load16_stack.md) -/

/-- `LD rp,nn`, `LD SP,HL` and `LD (nn),SP`, the low byte at nn first (R161, R162, R163; counts and byte order are the
spec's own, D16, D17, D22). -/
def Obligations.SixteenBitLoads : Prop :=
  ∀ (s : State) (rp : Pair) (nn : Word),
    exec (Form.ldPairImm rp nn).toInstr s = .next { s.setPair rp nn with cycles := 12 } ∧
    exec .ld_SP_HL s = .next { s with sp := s.hl, cycles := 8 } ∧
    exec (.ld_mnn_SP nn) s =
      .next { (s.writeByte nn (BitVec.ofNat 8 s.sp.toNat)).writeByte (nn + 1) (BitVec.ofNat 8 (s.sp.toNat / 256)) with
        cycles := 20 }

/-- `LD HL,SP+d` and `ADD SP,d`: the sum with the signed displacement; Z and N cleared, H and C the carries out of bits
3 and 7 of the unsigned low-byte addition (41_load16_stack.md R164, 43_alu16.md R221). The bit positions are the spec's
own decision D25 (log 18), the counts 12 and 16 its own decision D16 (log 17; rows "gk" of R401). -/
def Obligations.StackPointerPlusDisplacement : Prop :=
  ∀ (s : State) (d : Byte),
    let v : Word := BitVec.ofInt 16 ((s.sp.toNat : Int) + d.toInt)
    let t := s.setFlags false false (decide (s.sp.toNat % 16 + d.toNat % 16 > 0xF))
      (decide (s.sp.toNat % 256 + d.toNat > 0xFF))
    exec (.ld_HL_SPd d) s = .next { t.setHL v with cycles := 12 } ∧
    exec (.add_SP_d d) s = .next { t with sp := v, cycles := 16 }

/-- PUSH: SP down by one, the high byte written there; down by one again, the low byte (R170, R171). -/
def Obligations.PushWritesHighThenLow : Prop :=
  ∀ (s : State),
    let pushed (h l : Byte) : State :=
      { ({ s with sp := s.sp - 1 } : State).writeByte (s.sp - 1) h with sp := s.sp - 2 }.writeByte (s.sp - 2) l
    exec .push_BC s = .next { pushed s.b s.c with cycles := 16 } ∧
    exec .push_DE s = .next { pushed s.d s.e with cycles := 16 } ∧
    exec .push_HL s = .next { pushed s.h s.l with cycles := 16 } ∧
    exec .push_AF s = .next { pushed s.a s.readF with cycles := 16 } ∧
    s.readF = s.f &&& 0xF0

/-- POP: the low byte read at SP, the high byte at SP + 1, SP up by two; POP AF discards bits 3 to 0 (R172, R173). -/
def Obligations.PopReadsLowThenHigh : Prop :=
  ∀ (s : State),
    let low := (s.readByte s.sp).1
    let s1 : State := { (s.readByte s.sp).2 with sp := s.sp + 1 }
    let high := (s1.readByte (s.sp + 1)).1
    let s2 : State := { (s1.readByte (s.sp + 1)).2 with sp := s.sp + 2, cycles := 12 }
    exec .pop_BC s = .next { s2 with b := high, c := low } ∧
    exec .pop_DE s = .next { s2 with d := high, e := low } ∧
    exec .pop_HL s = .next { s2 with h := high, l := low } ∧
    exec .pop_AF s = .next { s2 with a := high, f := low &&& 0xF0 }

/-! ### 8-bit arithmetic and logic (42_alu8.md) -/

/-- INC and DEC of an 8-bit operand: Zero from the result, Half-carry from the old low nibble, Carry not touched (R180 to
R183). -/
def Obligations.IncrementAndDecrementByte : Prop :=
  ∀ (s : State) (o : Operand8),
    let v := (s.readOperand o).1
    let s1 := (s.readOperand o).2
    let inc : Byte := BitVec.ofNat 8 ((v.toNat + 1) % 256)
    let dec : Byte := BitVec.ofNat 8 ((v.toNat + 255) % 256)
    exec (Form.inc8 o).toInstr s =
      .next { (((s1.writeOperand o inc).setFlag .zero (decide (inc.toNat = 0))).setFlag .subtract false).setFlag
        .halfCarry (decide (v.toNat % 16 = 0xF)) with cycles := costOf o 4 12 } ∧
    exec (Form.dec8 o).toInstr s =
      .next { (((s1.writeOperand o dec).setFlag .zero (decide (dec.toNat = 0))).setFlag .subtract true).setFlag
        .halfCarry (decide (v.toNat % 16 = 0x0)) with cycles := costOf o 4 12 }

/-- ADD and ADC with a register, (HL) or an immediate (R185, R186, R187). -/
def Obligations.AddWithAndWithoutCarry : Prop :=
  ∀ (s : State) (o : Operand8) (n : Byte),
    let v := (s.readOperand o).1
    let s1 := (s.readOperand o).2
    let c := bit01 (s.getFlag .carry)
    exec (Form.alu .add o).toInstr s = .next { afterSum s.a v 0 s1 with cycles := costOf o 4 8 } ∧
    exec (Form.aluImm .add n).toInstr s = .next { afterSum s.a n 0 s with cycles := 8 } ∧
    exec (Form.alu .adc o).toInstr s = .next { afterSum s.a v c s1 with cycles := costOf o 4 8 } ∧
    exec (Form.aluImm .adc n).toInstr s = .next { afterSum s.a n c s with cycles := 8 }

/-- SUB, SBC and CP with a register, (HL) or an immediate; CP writes no register (R185, R188, R189, R193). -/
def Obligations.SubtractAndCompare : Prop :=
  ∀ (s : State) (o : Operand8) (n : Byte),
    let v := (s.readOperand o).1
    let s1 := (s.readOperand o).2
    let c := bit01 (s.getFlag .carry)
    exec (Form.alu .sub o).toInstr s = .next { afterDifference s.a v 0 s1 with cycles := costOf o 4 8 } ∧
    exec (Form.aluImm .sub n).toInstr s = .next { afterDifference s.a n 0 s with cycles := 8 } ∧
    exec (Form.alu .sbc o).toInstr s = .next { afterDifference s.a v c s1 with cycles := costOf o 4 8 } ∧
    exec (Form.aluImm .sbc n).toInstr s = .next { afterDifference s.a n c s with cycles := 8 } ∧
    exec (Form.alu .cp o).toInstr s = .next { flagsAfterDifference s.a v 0 s1 with cycles := costOf o 4 8 } ∧
    exec (Form.aluImm .cp n).toInstr s = .next { flagsAfterDifference s.a n 0 s with cycles := 8 }

/-- AND, XOR and OR with a register, (HL) or an immediate (R185, R190, R191, R192). -/
def Obligations.LogicalOperations : Prop :=
  ∀ (s : State) (o : Operand8) (n : Byte),
    let v := (s.readOperand o).1
    let s1 := (s.readOperand o).2
    exec (Form.alu .and o).toInstr s = .next { afterLogic (s.a &&& v) true s1 with cycles := costOf o 4 8 } ∧
    exec (Form.aluImm .and n).toInstr s = .next { afterLogic (s.a &&& n) true s with cycles := 8 } ∧
    exec (Form.alu .xor o).toInstr s = .next { afterLogic (s.a ^^^ v) false s1 with cycles := costOf o 4 8 } ∧
    exec (Form.aluImm .xor n).toInstr s = .next { afterLogic (s.a ^^^ n) false s with cycles := 8 } ∧
    exec (Form.alu .or o).toInstr s = .next { afterLogic (s.a ||| v) false s1 with cycles := costOf o 4 8 } ∧
    exec (Form.aluImm .or n).toInstr s = .next { afterLogic (s.a ||| n) false s with cycles := 8 }

/-- The accumulator rotates: A rotated as the extended rotate of the same name, Zero, Subtract and Half-carry cleared
(R200 to R203; the count 4 is the spec's own, D16). -/
def Obligations.AccumulatorRotates : Prop :=
  ∀ (s : State) (k : AccRot),
    exec (Form.accRot k).toInstr s =
      .next { s.setFlags false false false (rotatedOut k.asRot s.a.toNat) with
        a := BitVec.ofNat 8 (rotatedNat k.asRot s.a.toNat (bit01 (s.getFlag .carry)))
        cycles := 4 }

/-- DAA, for every A and every N, H, C (R205; constants and count are the spec's own, D9, D16). -/
def Obligations.DecimalAdjust : Prop :=
  ∀ (s : State),
    let w : Byte :=
      BitVec.ofNat 8 (daaNat s.a.toNat (s.getFlag .subtract) (s.getFlag .halfCarry) (s.getFlag .carry))
    exec .daa s =
      .next { (({ s with a := w } : State).setFlag .zero (decide (w.toNat = 0))).setFlag .halfCarry false |>.setFlag
        .carry (daaCarry s.a.toNat (s.getFlag .subtract) (s.getFlag .carry)) with cycles := 4 }

/-- CPL, SCF and CCF (R206, R207, R208; the count 4 is the spec's own, D16). -/
def Obligations.ComplementAndCarryControl : Prop :=
  ∀ (s : State),
    exec .cpl s =
      .next { (s.setFlag .subtract true).setFlag .halfCarry true with
        a := BitVec.ofNat 8 (0xFF - s.a.toNat), cycles := 4 } ∧
    exec .scf s = .next { s.setFlags (s.getFlag .zero) false false true with cycles := 4 } ∧
    exec .ccf s = .next { s.setFlags (s.getFlag .zero) false false (!s.getFlag .carry) with cycles := 4 }

/-! ### 16-bit arithmetic (43_alu16.md) -/

/-- `ADD HL,rp`, `INC rp`, `DEC rp`: Zero kept by the first, no flag by the others (R220, R222, R223; counts are the
spec's own, D16). -/
def Obligations.PairArithmetic : Prop :=
  ∀ (s : State) (rp : Pair),
    let h := s.hl.toNat
    let v := (s.getPair rp).toNat
    exec (Form.addHL rp).toInstr s =
      .next { s.setFlags (s.getFlag .zero) false (decide (h % 4096 + v % 4096 > 0xFFF)) (decide (h + v > 0xFFFF)) |>.setHL
        (BitVec.ofNat 16 ((h + v) % 65536)) with cycles := 8 } ∧
    exec (Form.incPair rp).toInstr s =
      .next { s.setPair rp (BitVec.ofNat 16 ((v + 1) % 65536)) with cycles := 8 } ∧
    exec (Form.decPair rp).toInstr s =
      .next { s.setPair rp (BitVec.ofNat 16 ((v + 65535) % 65536)) with cycles := 8 }

/-! ### Control transfer (44_control_transfer.md) -/

/-- `JP nn`, `JP cc,nn` taken and not taken, `JP (HL)` without a memory access (R241, R242, R243). -/
def Obligations.AbsoluteJumps : Prop :=
  ∀ (s : State) (cc : Cond) (nn : Word),
    exec (.jp_nn nn) s = .next { s with pc := nn, cycles := 16 } ∧
    (s.cond cc = true → exec (Form.jpCond cc nn).toInstr s = .next { s with pc := nn, cycles := 16 }) ∧
    (s.cond cc = false → exec (Form.jpCond cc nn).toInstr s = .next { s with cycles := 12 }) ∧
    exec .jp_mHL s = .next { s with pc := s.hl, cycles := 4 }

/-- The conditions (00_scope.md R12), and `JR d`, `JR cc,d`: from the address after the instruction, by the signed
displacement, modulo 65536 (R244, R245; the base address is the spec's own decision D15). -/
def Obligations.RelativeJumps : Prop :=
  ∀ (s : State) (cc : Cond) (d : Byte),
    let target : Word := BitVec.ofInt 16 ((s.pc.toNat : Int) + d.toInt)
    exec (.jr_d d) s = .next { s with pc := target, cycles := 12 } ∧
    (s.cond cc = true → exec (Form.jrCond cc d).toInstr s = .next { s with pc := target, cycles := 12 }) ∧
    (s.cond cc = false → exec (Form.jrCond cc d).toInstr s = .next { s with cycles := 8 }) ∧
    s.cond .Z = s.getFlag .zero ∧ s.cond .NZ = !s.getFlag .zero ∧
    s.cond .C = s.getFlag .carry ∧ s.cond .NC = !s.getFlag .carry

/-- CALL, CALL cc taken and not taken, and RST: the address after the instruction is pushed, the high byte at the higher
address (R246, R247, R251). -/
def Obligations.CallsPushTheNextAddress : Prop :=
  ∀ (s : State) (cc : Cond) (nn : Word) (t : Oct),
    let pushed : State :=
      { ({ s with sp := s.sp - 1 } : State).writeByte (s.sp - 1) (BitVec.ofNat 8 (s.pc.toNat / 256)) with
        sp := s.sp - 2 }.writeByte (s.sp - 2) (BitVec.ofNat 8 s.pc.toNat)
    exec (.call_nn nn) s = .next { pushed with pc := nn, cycles := 24 } ∧
    (s.cond cc = true → exec (Form.callCond cc nn).toInstr s = .next { pushed with pc := nn, cycles := 24 }) ∧
    (s.cond cc = false → exec (Form.callCond cc nn).toInstr s = .next { s with cycles := 12 }) ∧
    exec (Form.rst t).toInstr s = .next { pushed with pc := BitVec.ofNat 16 (8 * t.toNat), cycles := 16 }

/-- RET and RET cc taken and not taken: PC is the popped pair (R248, R249). -/
def Obligations.ReturnsPopTheAddress : Prop :=
  ∀ (s : State) (cc : Cond),
    let low := (s.readByte s.sp).1
    let s1 : State := { (s.readByte s.sp).2 with sp := s.sp + 1 }
    let high := (s1.readByte (s.sp + 1)).1
    let s2 : State :=
      { (s1.readByte (s.sp + 1)).2 with sp := s.sp + 2, pc := BitVec.ofNat 16 (high.toNat * 256 + low.toNat) }
    exec .ret s = .next { s2 with cycles := 16 } ∧
    (s.cond cc = true → exec (Form.retCond cc).toInstr s = .next { s2 with cycles := 20 }) ∧
    (s.cond cc = false → exec (Form.retCond cc).toInstr s = .next { s with cycles := 8 })

/-- RETI is RET and IME set at once (R250, 60_exceptions.md R353; the count 16 is the spec's own, D16). -/
def Obligations.ReturnFromInterruptSetsIme : Prop :=
  ∀ (s t : State), exec .ret s = .next t → exec .reti s = .next { t with ime := true, cycles := 16 }

/-! ### CPU control, the escape, the invalid bytes (45_cpu_control.md) -/

/-- HALT, DI and EI: one boolean each, at once, and nothing else (R271, R273, R274). -/
def Obligations.HaltAndInterruptMaster : Prop :=
  ∀ (s : State),
    exec .halt s = .next { s with halted := true, cycles := 4 } ∧
    exec .di s = .next { s with ime := false, cycles := 4 } ∧
    exec .ei s = .next { s with ime := true, cycles := 4 }

/-- NOP (the spec's own, D5), and STOP, which sets both booleans (R270, R272). -/
def Obligations.NopAndStop : Prop :=
  ∀ (s : State),
    exec .nop s = .next { s with cycles := 4 } ∧
    exec .stop s = .next { s with halted := true, stopped := true, cycles := 4 }

/-- The escape handler runs the extended row of its byte and returns 4 more than `ExecuteExtended` (R275, 47_dispatch.md
R322, R323; that every extended byte has a handler is the spec's own decision D6). -/
def Obligations.EscapeRunsTheExtendedRow : Prop :=
  ∀ (s : State) (e : Byte),
    ∃ t, executeExtended e s = .next t ∧
      exec (.escape e) s = .next { t with cycles := t.cycles + 4 } ∧
      exec (extendedInstr e) s = .next { t with cycles := t.cycles + 4 } ∧
      t.cycles = extCycleRow (extendedForm e)

/-- The eleven invalid bytes raise the error, through `Execute` and in a Step that would fetch one from RAM (R276, R340,
R341; the byte values are the spec's own, D3). -/
def Obligations.InvalidBytesRaiseInvalidOpcode : Prop :=
  ∀ (s : State) (op : Byte), op ∈ Config.invalidPrimary →
    exec (.invalid op) s = .fault (.invalidOpcode .primary op) ∧
    execute op [] s = .fault (.invalidOpcode .primary op) ∧
    (s.FetchesNext → s.IsRam s.pc → s.peek s.pc = op → step s = .fault (.invalidOpcode .primary op))

/-! ### The extended set (46_extended.md) -/

/-- The rotates, the shifts and SWAP, on every operand: one read, the result written back, the four flags (46_extended.md
R289 to R297). The handler's count is 8 or 16 (R289); the instruction is reached through the escape, which adds 4
(45_cpu_control.md R275), so exec's count is 12 or 20. -/
def Obligations.ExtendedRotatesAndShifts : Prop :=
  ∀ (s : State) (op : RotOp) (o : Operand8),
    let v := (s.readOperand o).1
    let s1 := (s.readOperand o).2
    let w : Byte := BitVec.ofNat 8 (rotatedNat op v.toNat (bit01 (s.getFlag .carry)))
    exec (Form.ext (.rot op o)).toInstr s =
      .next { (s1.writeOperand o w).setFlags (decide (w.toNat = 0)) false false (rotatedOut op v.toNat) with
        cycles := costOf o 8 16 + 4 }

/-- BIT tests, RES clears and SET sets one bit of the operand; BIT writes nothing back, RES and SET write no flag
(46_extended.md R300, R301, R302; operand fetch and write-back: R289). The handler's count is 8, 12 or 16 (R289); the
escape adds 4 (45_cpu_control.md R275), so exec's count is 12, 16 or 20. -/
def Obligations.BitTestClearAndSet : Prop :=
  ∀ (s : State) (b : Oct) (o : Operand8),
    let v := (s.readOperand o).1
    let s1 := (s.readOperand o).2
    exec (Form.ext (.bit b o)).toInstr s =
      .next { ((s1.setFlag .zero (v.getLsbD b.toNat == false)).setFlag .subtract false).setFlag .halfCarry true with
        cycles := costOf o 8 12 + 4 } ∧
    (∃ w : Byte, (∀ j, j < 8 → w.getLsbD j = if j = b.toNat then false else v.getLsbD j) ∧
      exec (Form.ext (.res b o)).toInstr s =
        .next { s1.writeOperand o w with cycles := costOf o 8 16 + 4 }) ∧
    (∃ w : Byte, (∀ j, j < 8 → w.getLsbD j = if j = b.toNat then true else v.getLsbD j) ∧
      exec (Form.ext (.set b o)).toInstr s =
        .next { s1.writeOperand o w with cycles := costOf o 8 16 + 4 })

/-! ### Laws of the spec -/

/-- PUSH then POP of the same pair restores the bytes and SP, where the two stack cells are RAM; for AF under the invariant
that F's padding is zero (41_load16_stack.md R174). -/
def Obligations.PushThenPopRestores : Prop :=
  ∀ (s : State) (rp2 : StackPair), s.Inv → s.IsRam (s.sp - 1) → s.IsRam (s.sp - 2) →
    ∃ t u, exec (Form.push rp2).toInstr s = .next t ∧ exec (Form.pop rp2).toInstr t = .next u ∧
      (∀ r, u.getReg r = s.getReg r) ∧ u.f = s.f ∧ u.sp = s.sp ∧ u.pc = s.pc

/-- CALL (and RST) then RET returns to the address after it and restores SP, where the two stack cells are RAM
(44_control_transfer.md R252). -/
def Obligations.CallThenReturnComesBack : Prop :=
  ∀ (s : State) (nn : Word) (k : Oct), s.Inv → s.IsRam (s.sp - 1) → s.IsRam (s.sp - 2) →
    (∃ t u, exec (.call_nn nn) s = .next t ∧ t.pc = nn ∧ exec .ret t = .next u ∧ u.pc = s.pc ∧ u.sp = s.sp) ∧
    (∃ t u, exec (Form.rst k).toInstr s = .next t ∧ exec .ret t = .next u ∧ u.pc = s.pc ∧ u.sp = s.sp)

/-- INC then DEC, and DEC then INC, of a register give it back; Zero, Subtract and Half-carry after the pair are those of the
second instruction on the value between; Carry is never touched (42_alu8.md R184). -/
def Obligations.IncrementThenDecrementRestores : Prop :=
  ∀ (s : State) (r : Reg8),
    let v := (s.getReg r).toNat
    (∃ t u, exec (Form.inc8 (.reg r)).toInstr s = .next t ∧ exec (Form.dec8 (.reg r)).toInstr t = .next u ∧
      (∀ q, u.getReg q = s.getReg q) ∧ u.getFlag .zero = decide (v = 0) ∧ u.getFlag .subtract = true ∧
      u.getFlag .halfCarry = decide (v % 16 = 0xF) ∧ u.getFlag .carry = s.getFlag .carry) ∧
    (∃ t u, exec (Form.dec8 (.reg r)).toInstr s = .next t ∧ exec (Form.inc8 (.reg r)).toInstr t = .next u ∧
      (∀ q, u.getReg q = s.getReg q) ∧ u.getFlag .zero = decide (v = 0) ∧ u.getFlag .subtract = false ∧
      u.getFlag .halfCarry = decide (v % 16 = 0) ∧ u.getFlag .carry = s.getFlag .carry)

/-- The laws of the extended set on a register (46_extended.md R303): SET then BIT finds the bit set, RES then BIT finds it
clear, no other bit of the operand changed; SWAP undoes itself; RLC then RRC restores the operand; RL then RR restores the operand and Carry. -/
def Obligations.ExtendedSetLaws : Prop :=
  ∀ (s : State) (r : Reg8) (b : Oct),
    let both (x y : ExtForm) (p : State → Prop) : Prop :=
      ∃ t u, exec (Form.ext x).toInstr s = .next t ∧ exec (Form.ext y).toInstr t = .next u ∧ p u
    both (.set b (.reg r)) (.bit b (.reg r)) (fun u => u.getFlag .zero = false ∧
      ∀ j, j ≠ b.toNat → (u.getReg r).getLsbD j = (s.getReg r).getLsbD j) ∧
    both (.res b (.reg r)) (.bit b (.reg r)) (fun u => u.getFlag .zero = true ∧
      ∀ j, j ≠ b.toNat → (u.getReg r).getLsbD j = (s.getReg r).getLsbD j) ∧
    both (.rot .swap (.reg r)) (.rot .swap (.reg r)) (fun u => ∀ q, u.getReg q = s.getReg q) ∧
    both (.rot .rlc (.reg r)) (.rot .rrc (.reg r)) (fun u =>
      (∀ q, u.getReg q = s.getReg q) ∧ u.getFlag .carry = (s.getReg r).getLsbD 7) ∧
    both (.rot .rl (.reg r)) (.rot .rr (.reg r)) (fun u =>
      (∀ q, u.getReg q = s.getReg q) ∧ u.getFlag .carry = s.getFlag .carry)

/-! ### Tables and frames over every instruction -/

/-- The flag table of 10_state.md R33: a flag marked "-" keeps its value, one marked 0 or 1 takes it; the padding of F is
written by POP AF alone. -/
def Obligations.FlagsFollowTheTable : Prop :=
  ∀ (f : Form) (s t : State), exec f.toInstr s = .next t →
    (∀ fl, (f.flagRow.entry fl).Allows (s.getFlag fl) (t.getFlag fl)) ∧
    (f ≠ .pop .AF → t.f &&& 0x0F = s.f &&& 0x0F)

/-- The access table of 20_memory.md R68: exactly these accesses on the port, in this order. -/
def Obligations.AccessesFollowTheTable : Prop :=
  ∀ (f : Form) (s t : State), exec f.toInstr s = .next t →
    ∃ l : List PortAccess, t.trace = s.trace ++ l ∧ l.map PortAccess.toAccess = accessRow f s

/-- The cycle table of 70_reset_and_hazards.md R401: the count an instruction returns through `Execute`. -/
def Obligations.CyclesFollowTheTable : Prop :=
  ∀ (f : Form) (s t : State), exec f.toInstr s = .next t → t.cycles = cycleRow f s

/-- FRAME, registers: every general register but those the instruction writes, SP and PC where it does not write them (files
40 to 46). -/
def Obligations.OtherRegistersUnchanged : Prop :=
  ∀ (f : Form) (s t : State), exec f.toInstr s = .next t →
    (∀ r, f.writesReg r = false → t.getReg r = s.getReg r) ∧
    (f.writesSP = false → t.sp = s.sp) ∧
    (f.writesPC = false → t.pc = s.pc)

/-- FRAME, memory: every stored byte but those at the addresses the instruction stores to, its "W" accesses of R68; all of
memory for a form that stores nothing. -/
def Obligations.OtherBytesUnchanged : Prop :=
  ∀ (f : Form) (s t : State) (a : Word), exec f.toInstr s = .next t → a ∉ storedAt f s → t.peek a = s.peek a

/-- FRAME, control: IME, `halted`, `stopped` as the instruction leaves them and no other way (10_state.md R36 to R38).
The last three clauses are the MODEL'S CHOICE and follow from no rule: that the environment's map stays as it is (log 2,
DESIGN CHOICE; 20_memory.md R62 allows bank switching), and that a store reaches IE and IF only at a cell the map routes
to them (log 2, log 12; the spec's own decision D18, 10_state.md R40). -/
def Obligations.ControlStateUnchanged : Prop :=
  ∀ (f : Form) (s t : State), exec f.toInstr s = .next t →
    t.ime = f.imeAfter s.ime ∧ t.halted = f.haltedAfter s.halted ∧ t.stopped = f.stoppedAfter s.stopped ∧
    t.env = s.env ∧
    ((∀ a ∈ storedAt f s, s.kindAt a ≠ .enableMask) → t.ieReg = s.ieReg) ∧
    ((∀ a ∈ storedAt f s, s.kindAt a ≠ .pendingFlags) → t.ifReg = s.ifReg)

/-- A handler "cannot itself fail": every instruction but the invalid bytes, and the escape on a byte without a handler,
answers a next state, in every state (60_exceptions.md R342). -/
def Obligations.EveryInstructionCompletes : Prop :=
  ∀ (i : Instr) (s : State), (∀ op, i ≠ .invalid op) → (∀ e, i = .escape e → e ∉ Config.unimplExtended) →
    ∃ t, exec i s = .next t

/-- `Execute` does not read `halted`, `stopped` or `ime`: other values of them change nothing else of what an instruction
does (47_dispatch.md R321, 60_exceptions.md R360). -/
def Obligations.ExecuteDoesNotReadControlState : Prop :=
  ∀ (f : Form) (s t : State) (hb sb mb : Bool), exec f.toInstr s = .next t →
    exec f.toInstr { s with halted := hb, stopped := sb, ime := mb } =
      .next { t with halted := f.haltedAfter hb, stopped := f.stoppedAfter sb, ime := f.imeAfter mb }

/-! ### The Step, interrupts, reset -/

/-- A Step that fetches from RAM runs exec of the decoded instruction, at PC past its bytes, each of them read once in
ascending order (47_dispatch.md R330, R331: the spec's own decision D1). -/
def Obligations.StepRunsTheDecodedInstruction : Prop :=
  ∀ (s : State) (i : Instr) (rest : List Byte), s.FetchesNext →
    s.IsRam s.pc → s.IsRam (s.pc + 1) → s.IsRam (s.pc + 2) →
    decode [s.peek s.pc, s.peek (s.pc + 1), s.peek (s.pc + 2)] = .ok (i, rest) →
    (∀ op, i ≠ .invalid op) → (∀ e, i ≠ .escape e) →
    step s =
      exec i { s with
        pc := s.pc + BitVec.ofNat 16 (3 - rest.length)
        cycles := 0
        trace := [.read s.pc (s.peek s.pc), .read (s.pc + 1) (s.peek (s.pc + 1)),
          .read (s.pc + 2) (s.peek (s.pc + 2))].take (3 - rest.length) }

/-- The Steps that fetch nothing: stopped, idle while halted, an interrupt serviced; and the wake, which goes on with the fetch
(47_dispatch.md R330, 60_exceptions.md R355, R361, R362: the spec's own decisions D12, D13, D24). -/
def Obligations.StepsThatDoNotFetch : Prop :=
  ∀ (s : State),
    (s.stopped = true → step s = .next { s with cycles := 0, trace := [] }) ∧
    (∀ i, s.stopped = false → serviceable s = some i →
      step s = .next (takeInterrupt i { s with cycles := 0, trace := [] })) ∧
    (s.stopped = false → serviceable s = none → s.halted = true → (s.ieReg &&& s.ifReg &&& 0x1F) = 0 →
      step s = .next { s with cycles := 4, trace := [] }) ∧
    (s.stopped = false → serviceable s = none → s.halted = true → (s.ieReg &&& s.ifReg &&& 0x1F) ≠ 0 →
      step s = step { s with halted := false })

/-- The interrupt-service step (60_exceptions.md R350), with the stack in RAM: IME and the type's pending bit cleared, PC
pushed high byte first, PC at 0x0040 + 8*i, `halted` cleared, 20 cycles; nothing else. Without IME or a type: 0 cycles and
no change. Type i at bit i of IF is the spec's own decision D18. -/
def Obligations.ServiceStepTakesTheInterrupt : Prop :=
  (∀ (s : State) (i : IrqType), s.Inv → s.ime = true → s.highestPriority = some i →
    s.IsRam (s.sp - 1) → s.IsRam (s.sp - 2) →
    let t := serviceInterrupt s
    t.ime = false ∧ t.halted = false ∧ t.pc.toNat = 0x0040 + 8 * i.index ∧ t.sp = s.sp - 2 ∧ t.cycles = 20 ∧
    t.peek (s.sp - 1) = BitVec.ofNat 8 (s.pc.toNat / 256) ∧ t.peek (s.sp - 2) = BitVec.ofNat 8 s.pc.toNat ∧
    (∀ a, a ≠ s.sp - 1 → a ≠ s.sp - 2 → t.peek a = s.peek a) ∧
    (∀ j, j < 8 → t.ifReg.getLsbD j = if j = i.index then false else s.ifReg.getLsbD j) ∧
    t.ieReg = s.ieReg ∧ (∀ r, t.getReg r = s.getReg r) ∧ t.f = s.f ∧ t.stopped = s.stopped ∧ t.env = s.env ∧
    t.trace = s.trace ++ [.write (s.sp - 1) (BitVec.ofNat 8 (s.pc.toNat / 256)),
      .write (s.sp - 2) (BitVec.ofNat 8 s.pc.toNat)]) ∧
  (∀ s : State, s.ime = false ∨ s.highestPriority = none → serviceInterrupt s = { s with cycles := 0 })

/-- The winner is the least type that is enabled and pending, and there is one exactly when IE & IF & 0x1F is not 0
(60_exceptions.md R345, R348; type i at bit i is the spec's own decision D18). -/
def Obligations.HighestPriorityIsTheLeastType : Prop :=
  ∀ (s : State),
    (∀ i, s.highestPriority = some i ↔
      (s.ieReg.getLsbD i.index = true ∧ s.ifReg.getLsbD i.index = true ∧
        ∀ j : IrqType, j.index < i.index →
          ¬ (s.ieReg.getLsbD j.index = true ∧ s.ifReg.getLsbD j.index = true))) ∧
    (s.highestPriority = none ↔ s.ieReg &&& s.ifReg &&& 0x1F = 0)

/-- What the document states of reset (10_state.md R45), and the input events: `Reset` gives the reset values from any state
and leaves memory (70_reset_and_hazards.md R380); `StopWake` leaves the stopped state and only that (60_exceptions.md R362:
the spec's own decision D13). -/
def Obligations.ResetAndStopWake : Prop :=
  State.reset.pc = 0x0100 ∧ State.reset.sp = 0xFFFE ∧ State.reset.ime = false ∧ State.reset.ieReg = 0x00 ∧
  State.reset.ifReg = 0xE0 ∧
  (∀ s : State, s.Inv →
    resetEvent s = { State.reset with mem := s.mem, env := s.env, deviceReads := s.deviceReads }) ∧
  (∀ s : State, s.stopped = true → stopWake s = { s with stopped := false, halted := false }) ∧
  (∀ s : State, s.stopped = false → stopWake s = s)

/-- The invariant holds after reset. -/
def Obligations.InvariantAtReset : Prop := State.reset.Inv

/-- Every Step keeps the invariant: memory stays canonical, F[3:0] = 0 (10_state.md R31), IF[7:5] = 1 (R40), a stopped core is
halted. -/
def Obligations.StepKeepsTheInvariant : Prop :=
  ∀ s t : State, s.Inv → step s = .next t → t.Inv

/-- Every input event keeps the invariant. -/
def Obligations.EventsKeepTheInvariant : Prop :=
  ∀ (s : State) (e : EnvEvent), s.Inv → (applyEvent e s).Inv

/-- `InvalidOpcode` is the only way a Step ends without a next state: it is raised by a Step that fetches, on one of the bytes
without a handler, which RAM at PC holds (60_exceptions.md R340 to R342, 47_dispatch.md R330, R331). When a Step fetches
(not stopped, nothing to service) is the spec's own decision D1 (log 15), the eleven byte values its own decision D3
(log 10), that no other slot is empty its own decision D6 (log 19). -/
def Obligations.StepStopsOnlyOnInvalidBytes : Prop :=
  ∀ (s : State),
    (∀ r, step s ≠ .refused r) ∧
    (∀ r, step s = .fault r →
      ∃ op, op ∈ Config.invalidPrimary ∧ r = .invalidOpcode .primary op ∧ s.stopped = false ∧
        serviceable s = none ∧ (s.IsRam s.pc → s.peek s.pc = op))

/-- `Execute` is the meaning the slot and its immediates give; with another number of immediates it has no meaning
(47_dispatch.md R320; the second is the spec's own decision D32). -/
def Obligations.ExecuteDispatchesByTheSlot : Prop :=
  ∀ (s : State) (op : Byte) (imms rest : List Byte) (i : Instr),
    (decode (op :: imms) = .ok (i, rest) → rest = [] → i ≠ .stop → execute op imms s = exec i s) ∧
    execute 0x10 [] s = exec .stop s ∧
    (op ∉ Config.invalidPrimary → 3 ≤ imms.length → execute op imms s = .refused .immediateCount)
end

