-- ==== Sys2Proof/Laws/State.lean ====
section
/-! SUPPORT. Laws/State.lean: one lemma per field per update, for every update the operations and meanings make. -/

namespace Sys2Proof.Machine


/-! ### Addresses two apart -/

theorem word_sub_one_sub_one (w : Word) : w - 1#16 - 1#16 = w - 2#16 := by
  rw [BitVec.sub_sub]; rfl

theorem word_add_one_add_one (w : Word) : w + 1#16 + 1#16 = w + 2#16 := by
  rw [BitVec.add_assoc]; rfl


/-! ### setFlag -/

@[simp] theorem State.setFlag_a (fl : Flag) (v : Bool) (s : State) : (s.setFlag fl v).a = s.a := rfl
@[simp] theorem State.setFlag_b (fl : Flag) (v : Bool) (s : State) : (s.setFlag fl v).b = s.b := rfl
@[simp] theorem State.setFlag_c (fl : Flag) (v : Bool) (s : State) : (s.setFlag fl v).c = s.c := rfl
@[simp] theorem State.setFlag_d (fl : Flag) (v : Bool) (s : State) : (s.setFlag fl v).d = s.d := rfl
@[simp] theorem State.setFlag_e (fl : Flag) (v : Bool) (s : State) : (s.setFlag fl v).e = s.e := rfl
@[simp] theorem State.setFlag_h (fl : Flag) (v : Bool) (s : State) : (s.setFlag fl v).h = s.h := rfl
@[simp] theorem State.setFlag_l (fl : Flag) (v : Bool) (s : State) : (s.setFlag fl v).l = s.l := rfl
@[simp] theorem State.setFlag_sp (fl : Flag) (v : Bool) (s : State) : (s.setFlag fl v).sp = s.sp := rfl
@[simp] theorem State.setFlag_pc (fl : Flag) (v : Bool) (s : State) : (s.setFlag fl v).pc = s.pc := rfl
@[simp] theorem State.setFlag_halted (fl : Flag) (v : Bool) (s : State) : (s.setFlag fl v).halted = s.halted := rfl
@[simp] theorem State.setFlag_stopped (fl : Flag) (v : Bool) (s : State) : (s.setFlag fl v).stopped = s.stopped := rfl
@[simp] theorem State.setFlag_ime (fl : Flag) (v : Bool) (s : State) : (s.setFlag fl v).ime = s.ime := rfl
@[simp] theorem State.setFlag_ieReg (fl : Flag) (v : Bool) (s : State) : (s.setFlag fl v).ieReg = s.ieReg := rfl
@[simp] theorem State.setFlag_ifReg (fl : Flag) (v : Bool) (s : State) : (s.setFlag fl v).ifReg = s.ifReg := rfl
@[simp] theorem State.setFlag_mem (fl : Flag) (v : Bool) (s : State) : (s.setFlag fl v).mem = s.mem := rfl
@[simp] theorem State.setFlag_env (fl : Flag) (v : Bool) (s : State) : (s.setFlag fl v).env = s.env := rfl
@[simp] theorem State.setFlag_deviceReads (fl : Flag) (v : Bool) (s : State) : (s.setFlag fl v).deviceReads = s.deviceReads := rfl
@[simp] theorem State.setFlag_cycles (fl : Flag) (v : Bool) (s : State) : (s.setFlag fl v).cycles = s.cycles := rfl
@[simp] theorem State.setFlag_trace (fl : Flag) (v : Bool) (s : State) : (s.setFlag fl v).trace = s.trace := rfl

/-! ### setFlags -/

@[simp] theorem State.setFlags_a (z n h c : Bool) (s : State) : (s.setFlags z n h c).a = s.a := rfl
@[simp] theorem State.setFlags_b (z n h c : Bool) (s : State) : (s.setFlags z n h c).b = s.b := rfl
@[simp] theorem State.setFlags_c (z n h c : Bool) (s : State) : (s.setFlags z n h c).c = s.c := rfl
@[simp] theorem State.setFlags_d (z n h c : Bool) (s : State) : (s.setFlags z n h c).d = s.d := rfl
@[simp] theorem State.setFlags_e (z n h c : Bool) (s : State) : (s.setFlags z n h c).e = s.e := rfl
@[simp] theorem State.setFlags_h (z n h c : Bool) (s : State) : (s.setFlags z n h c).h = s.h := rfl
@[simp] theorem State.setFlags_l (z n h c : Bool) (s : State) : (s.setFlags z n h c).l = s.l := rfl
@[simp] theorem State.setFlags_sp (z n h c : Bool) (s : State) : (s.setFlags z n h c).sp = s.sp := rfl
@[simp] theorem State.setFlags_pc (z n h c : Bool) (s : State) : (s.setFlags z n h c).pc = s.pc := rfl
@[simp] theorem State.setFlags_halted (z n h c : Bool) (s : State) : (s.setFlags z n h c).halted = s.halted := rfl
@[simp] theorem State.setFlags_stopped (z n h c : Bool) (s : State) : (s.setFlags z n h c).stopped = s.stopped := rfl
@[simp] theorem State.setFlags_ime (z n h c : Bool) (s : State) : (s.setFlags z n h c).ime = s.ime := rfl
@[simp] theorem State.setFlags_ieReg (z n h c : Bool) (s : State) : (s.setFlags z n h c).ieReg = s.ieReg := rfl
@[simp] theorem State.setFlags_ifReg (z n h c : Bool) (s : State) : (s.setFlags z n h c).ifReg = s.ifReg := rfl
@[simp] theorem State.setFlags_mem (z n h c : Bool) (s : State) : (s.setFlags z n h c).mem = s.mem := rfl
@[simp] theorem State.setFlags_env (z n h c : Bool) (s : State) : (s.setFlags z n h c).env = s.env := rfl
@[simp] theorem State.setFlags_deviceReads (z n h c : Bool) (s : State) : (s.setFlags z n h c).deviceReads = s.deviceReads := rfl
@[simp] theorem State.setFlags_cycles (z n h c : Bool) (s : State) : (s.setFlags z n h c).cycles = s.cycles := rfl
@[simp] theorem State.setFlags_trace (z n h c : Bool) (s : State) : (s.setFlags z n h c).trace = s.trace := rfl

/-! ### writeF -/

@[simp] theorem State.writeF_a (v : Byte) (s : State) : (s.writeF v).a = s.a := rfl
@[simp] theorem State.writeF_b (v : Byte) (s : State) : (s.writeF v).b = s.b := rfl
@[simp] theorem State.writeF_c (v : Byte) (s : State) : (s.writeF v).c = s.c := rfl
@[simp] theorem State.writeF_d (v : Byte) (s : State) : (s.writeF v).d = s.d := rfl
@[simp] theorem State.writeF_e (v : Byte) (s : State) : (s.writeF v).e = s.e := rfl
@[simp] theorem State.writeF_h (v : Byte) (s : State) : (s.writeF v).h = s.h := rfl
@[simp] theorem State.writeF_l (v : Byte) (s : State) : (s.writeF v).l = s.l := rfl
@[simp] theorem State.writeF_f (v : Byte) (s : State) : (s.writeF v).f = v &&& 0xF0 := rfl
@[simp] theorem State.writeF_sp (v : Byte) (s : State) : (s.writeF v).sp = s.sp := rfl
@[simp] theorem State.writeF_pc (v : Byte) (s : State) : (s.writeF v).pc = s.pc := rfl
@[simp] theorem State.writeF_halted (v : Byte) (s : State) : (s.writeF v).halted = s.halted := rfl
@[simp] theorem State.writeF_stopped (v : Byte) (s : State) : (s.writeF v).stopped = s.stopped := rfl
@[simp] theorem State.writeF_ime (v : Byte) (s : State) : (s.writeF v).ime = s.ime := rfl
@[simp] theorem State.writeF_ieReg (v : Byte) (s : State) : (s.writeF v).ieReg = s.ieReg := rfl
@[simp] theorem State.writeF_ifReg (v : Byte) (s : State) : (s.writeF v).ifReg = s.ifReg := rfl
@[simp] theorem State.writeF_mem (v : Byte) (s : State) : (s.writeF v).mem = s.mem := rfl
@[simp] theorem State.writeF_env (v : Byte) (s : State) : (s.writeF v).env = s.env := rfl
@[simp] theorem State.writeF_deviceReads (v : Byte) (s : State) : (s.writeF v).deviceReads = s.deviceReads := rfl
@[simp] theorem State.writeF_cycles (v : Byte) (s : State) : (s.writeF v).cycles = s.cycles := rfl
@[simp] theorem State.writeF_trace (v : Byte) (s : State) : (s.writeF v).trace = s.trace := rfl

/-! ### setReg -/

@[simp] theorem State.setReg_f (r : Reg8) (v : Byte) (s : State) : (s.setReg r v).f = s.f := by cases r <;> rfl
@[simp] theorem State.setReg_sp (r : Reg8) (v : Byte) (s : State) : (s.setReg r v).sp = s.sp := by cases r <;> rfl
@[simp] theorem State.setReg_pc (r : Reg8) (v : Byte) (s : State) : (s.setReg r v).pc = s.pc := by cases r <;> rfl
@[simp] theorem State.setReg_halted (r : Reg8) (v : Byte) (s : State) : (s.setReg r v).halted = s.halted := by cases r <;> rfl
@[simp] theorem State.setReg_stopped (r : Reg8) (v : Byte) (s : State) : (s.setReg r v).stopped = s.stopped := by cases r <;> rfl
@[simp] theorem State.setReg_ime (r : Reg8) (v : Byte) (s : State) : (s.setReg r v).ime = s.ime := by cases r <;> rfl
@[simp] theorem State.setReg_ieReg (r : Reg8) (v : Byte) (s : State) : (s.setReg r v).ieReg = s.ieReg := by cases r <;> rfl
@[simp] theorem State.setReg_ifReg (r : Reg8) (v : Byte) (s : State) : (s.setReg r v).ifReg = s.ifReg := by cases r <;> rfl
@[simp] theorem State.setReg_mem (r : Reg8) (v : Byte) (s : State) : (s.setReg r v).mem = s.mem := by cases r <;> rfl
@[simp] theorem State.setReg_env (r : Reg8) (v : Byte) (s : State) : (s.setReg r v).env = s.env := by cases r <;> rfl
@[simp] theorem State.setReg_deviceReads (r : Reg8) (v : Byte) (s : State) : (s.setReg r v).deviceReads = s.deviceReads := by cases r <;> rfl
@[simp] theorem State.setReg_cycles (r : Reg8) (v : Byte) (s : State) : (s.setReg r v).cycles = s.cycles := by cases r <;> rfl
@[simp] theorem State.setReg_trace (r : Reg8) (v : Byte) (s : State) : (s.setReg r v).trace = s.trace := by cases r <;> rfl

/-! ### setHL -/

@[simp] theorem State.setHL_a (v : Word) (s : State) : (s.setHL v).a = s.a := rfl
@[simp] theorem State.setHL_b (v : Word) (s : State) : (s.setHL v).b = s.b := rfl
@[simp] theorem State.setHL_c (v : Word) (s : State) : (s.setHL v).c = s.c := rfl
@[simp] theorem State.setHL_d (v : Word) (s : State) : (s.setHL v).d = s.d := rfl
@[simp] theorem State.setHL_e (v : Word) (s : State) : (s.setHL v).e = s.e := rfl
@[simp] theorem State.setHL_h (v : Word) (s : State) : (s.setHL v).h = hiByte v := rfl
@[simp] theorem State.setHL_l (v : Word) (s : State) : (s.setHL v).l = loByte v := rfl
@[simp] theorem State.setHL_f (v : Word) (s : State) : (s.setHL v).f = s.f := rfl
@[simp] theorem State.setHL_sp (v : Word) (s : State) : (s.setHL v).sp = s.sp := rfl
@[simp] theorem State.setHL_pc (v : Word) (s : State) : (s.setHL v).pc = s.pc := rfl
@[simp] theorem State.setHL_halted (v : Word) (s : State) : (s.setHL v).halted = s.halted := rfl
@[simp] theorem State.setHL_stopped (v : Word) (s : State) : (s.setHL v).stopped = s.stopped := rfl
@[simp] theorem State.setHL_ime (v : Word) (s : State) : (s.setHL v).ime = s.ime := rfl
@[simp] theorem State.setHL_ieReg (v : Word) (s : State) : (s.setHL v).ieReg = s.ieReg := rfl
@[simp] theorem State.setHL_ifReg (v : Word) (s : State) : (s.setHL v).ifReg = s.ifReg := rfl
@[simp] theorem State.setHL_mem (v : Word) (s : State) : (s.setHL v).mem = s.mem := rfl
@[simp] theorem State.setHL_env (v : Word) (s : State) : (s.setHL v).env = s.env := rfl
@[simp] theorem State.setHL_deviceReads (v : Word) (s : State) : (s.setHL v).deviceReads = s.deviceReads := rfl
@[simp] theorem State.setHL_cycles (v : Word) (s : State) : (s.setHL v).cycles = s.cycles := rfl
@[simp] theorem State.setHL_trace (v : Word) (s : State) : (s.setHL v).trace = s.trace := rfl

/-! ### setPair -/

@[simp] theorem State.setPair_f (rp : Pair) (v : Word) (s : State) : (s.setPair rp v).f = s.f := by cases rp <;> rfl
@[simp] theorem State.setPair_pc (rp : Pair) (v : Word) (s : State) : (s.setPair rp v).pc = s.pc := by cases rp <;> rfl
@[simp] theorem State.setPair_halted (rp : Pair) (v : Word) (s : State) : (s.setPair rp v).halted = s.halted := by cases rp <;> rfl
@[simp] theorem State.setPair_stopped (rp : Pair) (v : Word) (s : State) : (s.setPair rp v).stopped = s.stopped := by cases rp <;> rfl
@[simp] theorem State.setPair_ime (rp : Pair) (v : Word) (s : State) : (s.setPair rp v).ime = s.ime := by cases rp <;> rfl
@[simp] theorem State.setPair_ieReg (rp : Pair) (v : Word) (s : State) : (s.setPair rp v).ieReg = s.ieReg := by cases rp <;> rfl
@[simp] theorem State.setPair_ifReg (rp : Pair) (v : Word) (s : State) : (s.setPair rp v).ifReg = s.ifReg := by cases rp <;> rfl
@[simp] theorem State.setPair_mem (rp : Pair) (v : Word) (s : State) : (s.setPair rp v).mem = s.mem := by cases rp <;> rfl
@[simp] theorem State.setPair_env (rp : Pair) (v : Word) (s : State) : (s.setPair rp v).env = s.env := by cases rp <;> rfl
@[simp] theorem State.setPair_deviceReads (rp : Pair) (v : Word) (s : State) : (s.setPair rp v).deviceReads = s.deviceReads := by cases rp <;> rfl
@[simp] theorem State.setPair_cycles (rp : Pair) (v : Word) (s : State) : (s.setPair rp v).cycles = s.cycles := by cases rp <;> rfl
@[simp] theorem State.setPair_trace (rp : Pair) (v : Word) (s : State) : (s.setPair rp v).trace = s.trace := by cases rp <;> rfl

/-! ### setStackPair -/

@[simp] theorem State.setStackPair_sp (rp2 : StackPair) (v : Word) (s : State) : (s.setStackPair rp2 v).sp = s.sp := by cases rp2 <;> rfl
@[simp] theorem State.setStackPair_pc (rp2 : StackPair) (v : Word) (s : State) : (s.setStackPair rp2 v).pc = s.pc := by cases rp2 <;> rfl
@[simp] theorem State.setStackPair_halted (rp2 : StackPair) (v : Word) (s : State) : (s.setStackPair rp2 v).halted = s.halted := by cases rp2 <;> rfl
@[simp] theorem State.setStackPair_stopped (rp2 : StackPair) (v : Word) (s : State) : (s.setStackPair rp2 v).stopped = s.stopped := by cases rp2 <;> rfl
@[simp] theorem State.setStackPair_ime (rp2 : StackPair) (v : Word) (s : State) : (s.setStackPair rp2 v).ime = s.ime := by cases rp2 <;> rfl
@[simp] theorem State.setStackPair_ieReg (rp2 : StackPair) (v : Word) (s : State) : (s.setStackPair rp2 v).ieReg = s.ieReg := by cases rp2 <;> rfl
@[simp] theorem State.setStackPair_ifReg (rp2 : StackPair) (v : Word) (s : State) : (s.setStackPair rp2 v).ifReg = s.ifReg := by cases rp2 <;> rfl
@[simp] theorem State.setStackPair_mem (rp2 : StackPair) (v : Word) (s : State) : (s.setStackPair rp2 v).mem = s.mem := by cases rp2 <;> rfl
@[simp] theorem State.setStackPair_env (rp2 : StackPair) (v : Word) (s : State) : (s.setStackPair rp2 v).env = s.env := by cases rp2 <;> rfl
@[simp] theorem State.setStackPair_deviceReads (rp2 : StackPair) (v : Word) (s : State) : (s.setStackPair rp2 v).deviceReads = s.deviceReads := by cases rp2 <;> rfl
@[simp] theorem State.setStackPair_cycles (rp2 : StackPair) (v : Word) (s : State) : (s.setStackPair rp2 v).cycles = s.cycles := by cases rp2 <;> rfl
@[simp] theorem State.setStackPair_trace (rp2 : StackPair) (v : Word) (s : State) : (s.setStackPair rp2 v).trace = s.trace := by cases rp2 <;> rfl

/-! ### took -/

@[simp] theorem State.took_a (k : Nat) (s : State) : (s.took k).a = s.a := rfl
@[simp] theorem State.took_b (k : Nat) (s : State) : (s.took k).b = s.b := rfl
@[simp] theorem State.took_c (k : Nat) (s : State) : (s.took k).c = s.c := rfl
@[simp] theorem State.took_d (k : Nat) (s : State) : (s.took k).d = s.d := rfl
@[simp] theorem State.took_e (k : Nat) (s : State) : (s.took k).e = s.e := rfl
@[simp] theorem State.took_h (k : Nat) (s : State) : (s.took k).h = s.h := rfl
@[simp] theorem State.took_l (k : Nat) (s : State) : (s.took k).l = s.l := rfl
@[simp] theorem State.took_f (k : Nat) (s : State) : (s.took k).f = s.f := rfl
@[simp] theorem State.took_sp (k : Nat) (s : State) : (s.took k).sp = s.sp := rfl
@[simp] theorem State.took_pc (k : Nat) (s : State) : (s.took k).pc = s.pc := rfl
@[simp] theorem State.took_halted (k : Nat) (s : State) : (s.took k).halted = s.halted := rfl
@[simp] theorem State.took_stopped (k : Nat) (s : State) : (s.took k).stopped = s.stopped := rfl
@[simp] theorem State.took_ime (k : Nat) (s : State) : (s.took k).ime = s.ime := rfl
@[simp] theorem State.took_ieReg (k : Nat) (s : State) : (s.took k).ieReg = s.ieReg := rfl
@[simp] theorem State.took_ifReg (k : Nat) (s : State) : (s.took k).ifReg = s.ifReg := rfl
@[simp] theorem State.took_mem (k : Nat) (s : State) : (s.took k).mem = s.mem := rfl
@[simp] theorem State.took_env (k : Nat) (s : State) : (s.took k).env = s.env := rfl
@[simp] theorem State.took_deviceReads (k : Nat) (s : State) : (s.took k).deviceReads = s.deviceReads := rfl
@[simp] theorem State.took_cycles (k : Nat) (s : State) : (s.took k).cycles = k := rfl
@[simp] theorem State.took_trace (k : Nat) (s : State) : (s.took k).trace = s.trace := rfl

/-! ### jumpTo -/

@[simp] theorem State.jumpTo_a (v : Word) (s : State) : (s.jumpTo v).a = s.a := rfl
@[simp] theorem State.jumpTo_b (v : Word) (s : State) : (s.jumpTo v).b = s.b := rfl
@[simp] theorem State.jumpTo_c (v : Word) (s : State) : (s.jumpTo v).c = s.c := rfl
@[simp] theorem State.jumpTo_d (v : Word) (s : State) : (s.jumpTo v).d = s.d := rfl
@[simp] theorem State.jumpTo_e (v : Word) (s : State) : (s.jumpTo v).e = s.e := rfl
@[simp] theorem State.jumpTo_h (v : Word) (s : State) : (s.jumpTo v).h = s.h := rfl
@[simp] theorem State.jumpTo_l (v : Word) (s : State) : (s.jumpTo v).l = s.l := rfl
@[simp] theorem State.jumpTo_f (v : Word) (s : State) : (s.jumpTo v).f = s.f := rfl
@[simp] theorem State.jumpTo_sp (v : Word) (s : State) : (s.jumpTo v).sp = s.sp := rfl
@[simp] theorem State.jumpTo_pc (v : Word) (s : State) : (s.jumpTo v).pc = v := rfl
@[simp] theorem State.jumpTo_halted (v : Word) (s : State) : (s.jumpTo v).halted = s.halted := rfl
@[simp] theorem State.jumpTo_stopped (v : Word) (s : State) : (s.jumpTo v).stopped = s.stopped := rfl
@[simp] theorem State.jumpTo_ime (v : Word) (s : State) : (s.jumpTo v).ime = s.ime := rfl
@[simp] theorem State.jumpTo_ieReg (v : Word) (s : State) : (s.jumpTo v).ieReg = s.ieReg := rfl
@[simp] theorem State.jumpTo_ifReg (v : Word) (s : State) : (s.jumpTo v).ifReg = s.ifReg := rfl
@[simp] theorem State.jumpTo_mem (v : Word) (s : State) : (s.jumpTo v).mem = s.mem := rfl
@[simp] theorem State.jumpTo_env (v : Word) (s : State) : (s.jumpTo v).env = s.env := rfl
@[simp] theorem State.jumpTo_deviceReads (v : Word) (s : State) : (s.jumpTo v).deviceReads = s.deviceReads := rfl
@[simp] theorem State.jumpTo_cycles (v : Word) (s : State) : (s.jumpTo v).cycles = s.cycles := rfl
@[simp] theorem State.jumpTo_trace (v : Word) (s : State) : (s.jumpTo v).trace = s.trace := rfl

/-! ### record -/

@[simp] theorem State.record_a (x : PortAccess) (s : State) : (s.record x).a = s.a := rfl
@[simp] theorem State.record_b (x : PortAccess) (s : State) : (s.record x).b = s.b := rfl
@[simp] theorem State.record_c (x : PortAccess) (s : State) : (s.record x).c = s.c := rfl
@[simp] theorem State.record_d (x : PortAccess) (s : State) : (s.record x).d = s.d := rfl
@[simp] theorem State.record_e (x : PortAccess) (s : State) : (s.record x).e = s.e := rfl
@[simp] theorem State.record_h (x : PortAccess) (s : State) : (s.record x).h = s.h := rfl
@[simp] theorem State.record_l (x : PortAccess) (s : State) : (s.record x).l = s.l := rfl
@[simp] theorem State.record_f (x : PortAccess) (s : State) : (s.record x).f = s.f := rfl
@[simp] theorem State.record_sp (x : PortAccess) (s : State) : (s.record x).sp = s.sp := rfl
@[simp] theorem State.record_pc (x : PortAccess) (s : State) : (s.record x).pc = s.pc := rfl
@[simp] theorem State.record_halted (x : PortAccess) (s : State) : (s.record x).halted = s.halted := rfl
@[simp] theorem State.record_stopped (x : PortAccess) (s : State) : (s.record x).stopped = s.stopped := rfl
@[simp] theorem State.record_ime (x : PortAccess) (s : State) : (s.record x).ime = s.ime := rfl
@[simp] theorem State.record_ieReg (x : PortAccess) (s : State) : (s.record x).ieReg = s.ieReg := rfl
@[simp] theorem State.record_ifReg (x : PortAccess) (s : State) : (s.record x).ifReg = s.ifReg := rfl
@[simp] theorem State.record_mem (x : PortAccess) (s : State) : (s.record x).mem = s.mem := rfl
@[simp] theorem State.record_env (x : PortAccess) (s : State) : (s.record x).env = s.env := rfl
@[simp] theorem State.record_deviceReads (x : PortAccess) (s : State) : (s.record x).deviceReads = s.deviceReads := rfl
@[simp] theorem State.record_cycles (x : PortAccess) (s : State) : (s.record x).cycles = s.cycles := rfl
@[simp] theorem State.record_trace (x : PortAccess) (s : State) : (s.record x).trace = s.trace ++ [x] := rfl

/-! ### setIE -/

@[simp] theorem State.setIE_a (v : Byte) (s : State) : (s.setIE v).a = s.a := rfl
@[simp] theorem State.setIE_b (v : Byte) (s : State) : (s.setIE v).b = s.b := rfl
@[simp] theorem State.setIE_c (v : Byte) (s : State) : (s.setIE v).c = s.c := rfl
@[simp] theorem State.setIE_d (v : Byte) (s : State) : (s.setIE v).d = s.d := rfl
@[simp] theorem State.setIE_e (v : Byte) (s : State) : (s.setIE v).e = s.e := rfl
@[simp] theorem State.setIE_h (v : Byte) (s : State) : (s.setIE v).h = s.h := rfl
@[simp] theorem State.setIE_l (v : Byte) (s : State) : (s.setIE v).l = s.l := rfl
@[simp] theorem State.setIE_f (v : Byte) (s : State) : (s.setIE v).f = s.f := rfl
@[simp] theorem State.setIE_sp (v : Byte) (s : State) : (s.setIE v).sp = s.sp := rfl
@[simp] theorem State.setIE_pc (v : Byte) (s : State) : (s.setIE v).pc = s.pc := rfl
@[simp] theorem State.setIE_halted (v : Byte) (s : State) : (s.setIE v).halted = s.halted := rfl
@[simp] theorem State.setIE_stopped (v : Byte) (s : State) : (s.setIE v).stopped = s.stopped := rfl
@[simp] theorem State.setIE_ime (v : Byte) (s : State) : (s.setIE v).ime = s.ime := rfl
@[simp] theorem State.setIE_ieReg (v : Byte) (s : State) : (s.setIE v).ieReg = v := rfl
@[simp] theorem State.setIE_ifReg (v : Byte) (s : State) : (s.setIE v).ifReg = s.ifReg := rfl
@[simp] theorem State.setIE_mem (v : Byte) (s : State) : (s.setIE v).mem = s.mem := rfl
@[simp] theorem State.setIE_env (v : Byte) (s : State) : (s.setIE v).env = s.env := rfl
@[simp] theorem State.setIE_deviceReads (v : Byte) (s : State) : (s.setIE v).deviceReads = s.deviceReads := rfl
@[simp] theorem State.setIE_cycles (v : Byte) (s : State) : (s.setIE v).cycles = s.cycles := rfl
@[simp] theorem State.setIE_trace (v : Byte) (s : State) : (s.setIE v).trace = s.trace := rfl

/-! ### setIF -/

@[simp] theorem State.setIF_a (v : Byte) (s : State) : (s.setIF v).a = s.a := rfl
@[simp] theorem State.setIF_b (v : Byte) (s : State) : (s.setIF v).b = s.b := rfl
@[simp] theorem State.setIF_c (v : Byte) (s : State) : (s.setIF v).c = s.c := rfl
@[simp] theorem State.setIF_d (v : Byte) (s : State) : (s.setIF v).d = s.d := rfl
@[simp] theorem State.setIF_e (v : Byte) (s : State) : (s.setIF v).e = s.e := rfl
@[simp] theorem State.setIF_h (v : Byte) (s : State) : (s.setIF v).h = s.h := rfl
@[simp] theorem State.setIF_l (v : Byte) (s : State) : (s.setIF v).l = s.l := rfl
@[simp] theorem State.setIF_f (v : Byte) (s : State) : (s.setIF v).f = s.f := rfl
@[simp] theorem State.setIF_sp (v : Byte) (s : State) : (s.setIF v).sp = s.sp := rfl
@[simp] theorem State.setIF_pc (v : Byte) (s : State) : (s.setIF v).pc = s.pc := rfl
@[simp] theorem State.setIF_halted (v : Byte) (s : State) : (s.setIF v).halted = s.halted := rfl
@[simp] theorem State.setIF_stopped (v : Byte) (s : State) : (s.setIF v).stopped = s.stopped := rfl
@[simp] theorem State.setIF_ime (v : Byte) (s : State) : (s.setIF v).ime = s.ime := rfl
@[simp] theorem State.setIF_ieReg (v : Byte) (s : State) : (s.setIF v).ieReg = s.ieReg := rfl
@[simp] theorem State.setIF_ifReg (v : Byte) (s : State) : (s.setIF v).ifReg = (s.ifReg &&& 0xE0) ||| (v &&& 0x1F) := rfl
@[simp] theorem State.setIF_mem (v : Byte) (s : State) : (s.setIF v).mem = s.mem := rfl
@[simp] theorem State.setIF_env (v : Byte) (s : State) : (s.setIF v).env = s.env := rfl
@[simp] theorem State.setIF_deviceReads (v : Byte) (s : State) : (s.setIF v).deviceReads = s.deviceReads := rfl
@[simp] theorem State.setIF_cycles (v : Byte) (s : State) : (s.setIF v).cycles = s.cycles := rfl
@[simp] theorem State.setIF_trace (v : Byte) (s : State) : (s.setIF v).trace = s.trace := rfl

/-! ### requestIrq -/

@[simp] theorem State.requestIrq_a (i : IrqType) (s : State) : (s.requestIrq i).a = s.a := rfl
@[simp] theorem State.requestIrq_b (i : IrqType) (s : State) : (s.requestIrq i).b = s.b := rfl
@[simp] theorem State.requestIrq_c (i : IrqType) (s : State) : (s.requestIrq i).c = s.c := rfl
@[simp] theorem State.requestIrq_d (i : IrqType) (s : State) : (s.requestIrq i).d = s.d := rfl
@[simp] theorem State.requestIrq_e (i : IrqType) (s : State) : (s.requestIrq i).e = s.e := rfl
@[simp] theorem State.requestIrq_h (i : IrqType) (s : State) : (s.requestIrq i).h = s.h := rfl
@[simp] theorem State.requestIrq_l (i : IrqType) (s : State) : (s.requestIrq i).l = s.l := rfl
@[simp] theorem State.requestIrq_f (i : IrqType) (s : State) : (s.requestIrq i).f = s.f := rfl
@[simp] theorem State.requestIrq_sp (i : IrqType) (s : State) : (s.requestIrq i).sp = s.sp := rfl
@[simp] theorem State.requestIrq_pc (i : IrqType) (s : State) : (s.requestIrq i).pc = s.pc := rfl
@[simp] theorem State.requestIrq_halted (i : IrqType) (s : State) : (s.requestIrq i).halted = s.halted := rfl
@[simp] theorem State.requestIrq_stopped (i : IrqType) (s : State) : (s.requestIrq i).stopped = s.stopped := rfl
@[simp] theorem State.requestIrq_ime (i : IrqType) (s : State) : (s.requestIrq i).ime = s.ime := rfl
@[simp] theorem State.requestIrq_ieReg (i : IrqType) (s : State) : (s.requestIrq i).ieReg = s.ieReg := rfl
@[simp] theorem State.requestIrq_mem (i : IrqType) (s : State) : (s.requestIrq i).mem = s.mem := rfl
@[simp] theorem State.requestIrq_env (i : IrqType) (s : State) : (s.requestIrq i).env = s.env := rfl
@[simp] theorem State.requestIrq_deviceReads (i : IrqType) (s : State) : (s.requestIrq i).deviceReads = s.deviceReads := rfl
@[simp] theorem State.requestIrq_cycles (i : IrqType) (s : State) : (s.requestIrq i).cycles = s.cycles := rfl
@[simp] theorem State.requestIrq_trace (i : IrqType) (s : State) : (s.requestIrq i).trace = s.trace := rfl

/-! ### clearIrq -/

@[simp] theorem State.clearIrq_a (i : IrqType) (s : State) : (s.clearIrq i).a = s.a := rfl
@[simp] theorem State.clearIrq_b (i : IrqType) (s : State) : (s.clearIrq i).b = s.b := rfl
@[simp] theorem State.clearIrq_c (i : IrqType) (s : State) : (s.clearIrq i).c = s.c := rfl
@[simp] theorem State.clearIrq_d (i : IrqType) (s : State) : (s.clearIrq i).d = s.d := rfl
@[simp] theorem State.clearIrq_e (i : IrqType) (s : State) : (s.clearIrq i).e = s.e := rfl
@[simp] theorem State.clearIrq_h (i : IrqType) (s : State) : (s.clearIrq i).h = s.h := rfl
@[simp] theorem State.clearIrq_l (i : IrqType) (s : State) : (s.clearIrq i).l = s.l := rfl
@[simp] theorem State.clearIrq_f (i : IrqType) (s : State) : (s.clearIrq i).f = s.f := rfl
@[simp] theorem State.clearIrq_sp (i : IrqType) (s : State) : (s.clearIrq i).sp = s.sp := rfl
@[simp] theorem State.clearIrq_pc (i : IrqType) (s : State) : (s.clearIrq i).pc = s.pc := rfl
@[simp] theorem State.clearIrq_halted (i : IrqType) (s : State) : (s.clearIrq i).halted = s.halted := rfl
@[simp] theorem State.clearIrq_stopped (i : IrqType) (s : State) : (s.clearIrq i).stopped = s.stopped := rfl
@[simp] theorem State.clearIrq_ime (i : IrqType) (s : State) : (s.clearIrq i).ime = s.ime := rfl
@[simp] theorem State.clearIrq_ieReg (i : IrqType) (s : State) : (s.clearIrq i).ieReg = s.ieReg := rfl
@[simp] theorem State.clearIrq_mem (i : IrqType) (s : State) : (s.clearIrq i).mem = s.mem := rfl
@[simp] theorem State.clearIrq_env (i : IrqType) (s : State) : (s.clearIrq i).env = s.env := rfl
@[simp] theorem State.clearIrq_deviceReads (i : IrqType) (s : State) : (s.clearIrq i).deviceReads = s.deviceReads := rfl
@[simp] theorem State.clearIrq_cycles (i : IrqType) (s : State) : (s.clearIrq i).cycles = s.cycles := rfl
@[simp] theorem State.clearIrq_trace (i : IrqType) (s : State) : (s.clearIrq i).trace = s.trace := rfl

/-! ### clearOutputs -/

@[simp] theorem State.clearOutputs_a (s : State) : (s.clearOutputs).a = s.a := rfl
@[simp] theorem State.clearOutputs_b (s : State) : (s.clearOutputs).b = s.b := rfl
@[simp] theorem State.clearOutputs_c (s : State) : (s.clearOutputs).c = s.c := rfl
@[simp] theorem State.clearOutputs_d (s : State) : (s.clearOutputs).d = s.d := rfl
@[simp] theorem State.clearOutputs_e (s : State) : (s.clearOutputs).e = s.e := rfl
@[simp] theorem State.clearOutputs_h (s : State) : (s.clearOutputs).h = s.h := rfl
@[simp] theorem State.clearOutputs_l (s : State) : (s.clearOutputs).l = s.l := rfl
@[simp] theorem State.clearOutputs_f (s : State) : (s.clearOutputs).f = s.f := rfl
@[simp] theorem State.clearOutputs_sp (s : State) : (s.clearOutputs).sp = s.sp := rfl
@[simp] theorem State.clearOutputs_pc (s : State) : (s.clearOutputs).pc = s.pc := rfl
@[simp] theorem State.clearOutputs_halted (s : State) : (s.clearOutputs).halted = s.halted := rfl
@[simp] theorem State.clearOutputs_stopped (s : State) : (s.clearOutputs).stopped = s.stopped := rfl
@[simp] theorem State.clearOutputs_ime (s : State) : (s.clearOutputs).ime = s.ime := rfl
@[simp] theorem State.clearOutputs_ieReg (s : State) : (s.clearOutputs).ieReg = s.ieReg := rfl
@[simp] theorem State.clearOutputs_ifReg (s : State) : (s.clearOutputs).ifReg = s.ifReg := rfl
@[simp] theorem State.clearOutputs_mem (s : State) : (s.clearOutputs).mem = s.mem := rfl
@[simp] theorem State.clearOutputs_env (s : State) : (s.clearOutputs).env = s.env := rfl
@[simp] theorem State.clearOutputs_deviceReads (s : State) : (s.clearOutputs).deviceReads = s.deviceReads := rfl
@[simp] theorem State.clearOutputs_cycles (s : State) : (s.clearOutputs).cycles = 0 := rfl
@[simp] theorem State.clearOutputs_trace (s : State) : (s.clearOutputs).trace = [] := rfl

/-! ### answer (the environment after a read) -/

@[simp] theorem State.answer_snd_a (x : Word) (s : State) : ((s.answer x).2).a = s.a := by unfold State.answer; split <;> rfl
@[simp] theorem State.answer_snd_b (x : Word) (s : State) : ((s.answer x).2).b = s.b := by unfold State.answer; split <;> rfl
@[simp] theorem State.answer_snd_c (x : Word) (s : State) : ((s.answer x).2).c = s.c := by unfold State.answer; split <;> rfl
@[simp] theorem State.answer_snd_d (x : Word) (s : State) : ((s.answer x).2).d = s.d := by unfold State.answer; split <;> rfl
@[simp] theorem State.answer_snd_e (x : Word) (s : State) : ((s.answer x).2).e = s.e := by unfold State.answer; split <;> rfl
@[simp] theorem State.answer_snd_h (x : Word) (s : State) : ((s.answer x).2).h = s.h := by unfold State.answer; split <;> rfl
@[simp] theorem State.answer_snd_l (x : Word) (s : State) : ((s.answer x).2).l = s.l := by unfold State.answer; split <;> rfl
@[simp] theorem State.answer_snd_f (x : Word) (s : State) : ((s.answer x).2).f = s.f := by unfold State.answer; split <;> rfl
@[simp] theorem State.answer_snd_sp (x : Word) (s : State) : ((s.answer x).2).sp = s.sp := by unfold State.answer; split <;> rfl
@[simp] theorem State.answer_snd_pc (x : Word) (s : State) : ((s.answer x).2).pc = s.pc := by unfold State.answer; split <;> rfl
@[simp] theorem State.answer_snd_halted (x : Word) (s : State) : ((s.answer x).2).halted = s.halted := by unfold State.answer; split <;> rfl
@[simp] theorem State.answer_snd_stopped (x : Word) (s : State) : ((s.answer x).2).stopped = s.stopped := by unfold State.answer; split <;> rfl
@[simp] theorem State.answer_snd_ime (x : Word) (s : State) : ((s.answer x).2).ime = s.ime := by unfold State.answer; split <;> rfl
@[simp] theorem State.answer_snd_ieReg (x : Word) (s : State) : ((s.answer x).2).ieReg = s.ieReg := by unfold State.answer; split <;> rfl
@[simp] theorem State.answer_snd_ifReg (x : Word) (s : State) : ((s.answer x).2).ifReg = s.ifReg := by unfold State.answer; split <;> rfl
@[simp] theorem State.answer_snd_mem (x : Word) (s : State) : ((s.answer x).2).mem = s.mem := by unfold State.answer; split <;> rfl
@[simp] theorem State.answer_snd_env (x : Word) (s : State) : ((s.answer x).2).env = s.env := by unfold State.answer; split <;> rfl
@[simp] theorem State.answer_snd_cycles (x : Word) (s : State) : ((s.answer x).2).cycles = s.cycles := by unfold State.answer; split <;> rfl
@[simp] theorem State.answer_snd_trace (x : Word) (s : State) : ((s.answer x).2).trace = s.trace := by unfold State.answer; split <;> rfl

/-! ### accept (the environment after a write) -/

@[simp] theorem State.accept_a (x : Word) (v : Byte) (s : State) : (s.accept x v).a = s.a := by unfold State.accept; split <;> rfl
@[simp] theorem State.accept_b (x : Word) (v : Byte) (s : State) : (s.accept x v).b = s.b := by unfold State.accept; split <;> rfl
@[simp] theorem State.accept_c (x : Word) (v : Byte) (s : State) : (s.accept x v).c = s.c := by unfold State.accept; split <;> rfl
@[simp] theorem State.accept_d (x : Word) (v : Byte) (s : State) : (s.accept x v).d = s.d := by unfold State.accept; split <;> rfl
@[simp] theorem State.accept_e (x : Word) (v : Byte) (s : State) : (s.accept x v).e = s.e := by unfold State.accept; split <;> rfl
@[simp] theorem State.accept_h (x : Word) (v : Byte) (s : State) : (s.accept x v).h = s.h := by unfold State.accept; split <;> rfl
@[simp] theorem State.accept_l (x : Word) (v : Byte) (s : State) : (s.accept x v).l = s.l := by unfold State.accept; split <;> rfl
@[simp] theorem State.accept_f (x : Word) (v : Byte) (s : State) : (s.accept x v).f = s.f := by unfold State.accept; split <;> rfl
@[simp] theorem State.accept_sp (x : Word) (v : Byte) (s : State) : (s.accept x v).sp = s.sp := by unfold State.accept; split <;> rfl
@[simp] theorem State.accept_pc (x : Word) (v : Byte) (s : State) : (s.accept x v).pc = s.pc := by unfold State.accept; split <;> rfl
@[simp] theorem State.accept_halted (x : Word) (v : Byte) (s : State) : (s.accept x v).halted = s.halted := by unfold State.accept; split <;> rfl
@[simp] theorem State.accept_stopped (x : Word) (v : Byte) (s : State) : (s.accept x v).stopped = s.stopped := by unfold State.accept; split <;> rfl
@[simp] theorem State.accept_ime (x : Word) (v : Byte) (s : State) : (s.accept x v).ime = s.ime := by unfold State.accept; split <;> rfl
@[simp] theorem State.accept_env (x : Word) (v : Byte) (s : State) : (s.accept x v).env = s.env := by unfold State.accept; split <;> rfl
@[simp] theorem State.accept_deviceReads (x : Word) (v : Byte) (s : State) : (s.accept x v).deviceReads = s.deviceReads := by unfold State.accept; split <;> rfl
@[simp] theorem State.accept_cycles (x : Word) (v : Byte) (s : State) : (s.accept x v).cycles = s.cycles := by unfold State.accept; split <;> rfl
@[simp] theorem State.accept_trace (x : Word) (v : Byte) (s : State) : (s.accept x v).trace = s.trace := by unfold State.accept; split <;> rfl

/-! ### readByte -/

@[simp] theorem State.readByte_snd_a (x : Word) (s : State) : ((s.readByte x).2).a = s.a := by simp [State.readByte]
@[simp] theorem State.readByte_snd_b (x : Word) (s : State) : ((s.readByte x).2).b = s.b := by simp [State.readByte]
@[simp] theorem State.readByte_snd_c (x : Word) (s : State) : ((s.readByte x).2).c = s.c := by simp [State.readByte]
@[simp] theorem State.readByte_snd_d (x : Word) (s : State) : ((s.readByte x).2).d = s.d := by simp [State.readByte]
@[simp] theorem State.readByte_snd_e (x : Word) (s : State) : ((s.readByte x).2).e = s.e := by simp [State.readByte]
@[simp] theorem State.readByte_snd_h (x : Word) (s : State) : ((s.readByte x).2).h = s.h := by simp [State.readByte]
@[simp] theorem State.readByte_snd_l (x : Word) (s : State) : ((s.readByte x).2).l = s.l := by simp [State.readByte]
@[simp] theorem State.readByte_snd_f (x : Word) (s : State) : ((s.readByte x).2).f = s.f := by simp [State.readByte]
@[simp] theorem State.readByte_snd_sp (x : Word) (s : State) : ((s.readByte x).2).sp = s.sp := by simp [State.readByte]
@[simp] theorem State.readByte_snd_pc (x : Word) (s : State) : ((s.readByte x).2).pc = s.pc := by simp [State.readByte]
@[simp] theorem State.readByte_snd_halted (x : Word) (s : State) : ((s.readByte x).2).halted = s.halted := by simp [State.readByte]
@[simp] theorem State.readByte_snd_stopped (x : Word) (s : State) : ((s.readByte x).2).stopped = s.stopped := by simp [State.readByte]
@[simp] theorem State.readByte_snd_ime (x : Word) (s : State) : ((s.readByte x).2).ime = s.ime := by simp [State.readByte]
@[simp] theorem State.readByte_snd_ieReg (x : Word) (s : State) : ((s.readByte x).2).ieReg = s.ieReg := by simp [State.readByte]
@[simp] theorem State.readByte_snd_ifReg (x : Word) (s : State) : ((s.readByte x).2).ifReg = s.ifReg := by simp [State.readByte]
@[simp] theorem State.readByte_snd_mem (x : Word) (s : State) : ((s.readByte x).2).mem = s.mem := by simp [State.readByte]
@[simp] theorem State.readByte_snd_env (x : Word) (s : State) : ((s.readByte x).2).env = s.env := by simp [State.readByte]
@[simp] theorem State.readByte_snd_cycles (x : Word) (s : State) : ((s.readByte x).2).cycles = s.cycles := by simp [State.readByte]
@[simp] theorem State.readByte_snd_trace (x : Word) (s : State) : ((s.readByte x).2).trace = s.trace ++ [.read x (s.readByte x).1] := by simp [State.readByte]

/-! ### writeByte -/

@[simp] theorem State.writeByte_a (x : Word) (v : Byte) (s : State) : (s.writeByte x v).a = s.a := by simp [State.writeByte]
@[simp] theorem State.writeByte_b (x : Word) (v : Byte) (s : State) : (s.writeByte x v).b = s.b := by simp [State.writeByte]
@[simp] theorem State.writeByte_c (x : Word) (v : Byte) (s : State) : (s.writeByte x v).c = s.c := by simp [State.writeByte]
@[simp] theorem State.writeByte_d (x : Word) (v : Byte) (s : State) : (s.writeByte x v).d = s.d := by simp [State.writeByte]
@[simp] theorem State.writeByte_e (x : Word) (v : Byte) (s : State) : (s.writeByte x v).e = s.e := by simp [State.writeByte]
@[simp] theorem State.writeByte_h (x : Word) (v : Byte) (s : State) : (s.writeByte x v).h = s.h := by simp [State.writeByte]
@[simp] theorem State.writeByte_l (x : Word) (v : Byte) (s : State) : (s.writeByte x v).l = s.l := by simp [State.writeByte]
@[simp] theorem State.writeByte_f (x : Word) (v : Byte) (s : State) : (s.writeByte x v).f = s.f := by simp [State.writeByte]
@[simp] theorem State.writeByte_sp (x : Word) (v : Byte) (s : State) : (s.writeByte x v).sp = s.sp := by simp [State.writeByte]
@[simp] theorem State.writeByte_pc (x : Word) (v : Byte) (s : State) : (s.writeByte x v).pc = s.pc := by simp [State.writeByte]
@[simp] theorem State.writeByte_halted (x : Word) (v : Byte) (s : State) : (s.writeByte x v).halted = s.halted := by simp [State.writeByte]
@[simp] theorem State.writeByte_stopped (x : Word) (v : Byte) (s : State) : (s.writeByte x v).stopped = s.stopped := by simp [State.writeByte]
@[simp] theorem State.writeByte_ime (x : Word) (v : Byte) (s : State) : (s.writeByte x v).ime = s.ime := by simp [State.writeByte]
@[simp] theorem State.writeByte_env (x : Word) (v : Byte) (s : State) : (s.writeByte x v).env = s.env := by simp [State.writeByte]
@[simp] theorem State.writeByte_deviceReads (x : Word) (v : Byte) (s : State) : (s.writeByte x v).deviceReads = s.deviceReads := by simp [State.writeByte]
@[simp] theorem State.writeByte_cycles (x : Word) (v : Byte) (s : State) : (s.writeByte x v).cycles = s.cycles := by simp [State.writeByte]
@[simp] theorem State.writeByte_trace (x : Word) (v : Byte) (s : State) : (s.writeByte x v).trace = s.trace ++ [.write x v] := by simp [State.writeByte]

/-! ### write16 -/

@[simp] theorem State.write16_a (x v : Word) (s : State) : (s.write16 x v).a = s.a := by simp [State.write16]
@[simp] theorem State.write16_b (x v : Word) (s : State) : (s.write16 x v).b = s.b := by simp [State.write16]
@[simp] theorem State.write16_c (x v : Word) (s : State) : (s.write16 x v).c = s.c := by simp [State.write16]
@[simp] theorem State.write16_d (x v : Word) (s : State) : (s.write16 x v).d = s.d := by simp [State.write16]
@[simp] theorem State.write16_e (x v : Word) (s : State) : (s.write16 x v).e = s.e := by simp [State.write16]
@[simp] theorem State.write16_h (x v : Word) (s : State) : (s.write16 x v).h = s.h := by simp [State.write16]
@[simp] theorem State.write16_l (x v : Word) (s : State) : (s.write16 x v).l = s.l := by simp [State.write16]
@[simp] theorem State.write16_f (x v : Word) (s : State) : (s.write16 x v).f = s.f := by simp [State.write16]
@[simp] theorem State.write16_sp (x v : Word) (s : State) : (s.write16 x v).sp = s.sp := by simp [State.write16]
@[simp] theorem State.write16_pc (x v : Word) (s : State) : (s.write16 x v).pc = s.pc := by simp [State.write16]
@[simp] theorem State.write16_halted (x v : Word) (s : State) : (s.write16 x v).halted = s.halted := by simp [State.write16]
@[simp] theorem State.write16_stopped (x v : Word) (s : State) : (s.write16 x v).stopped = s.stopped := by simp [State.write16]
@[simp] theorem State.write16_ime (x v : Word) (s : State) : (s.write16 x v).ime = s.ime := by simp [State.write16]
@[simp] theorem State.write16_env (x v : Word) (s : State) : (s.write16 x v).env = s.env := by simp [State.write16]
@[simp] theorem State.write16_deviceReads (x v : Word) (s : State) : (s.write16 x v).deviceReads = s.deviceReads := by simp [State.write16]
@[simp] theorem State.write16_cycles (x v : Word) (s : State) : (s.write16 x v).cycles = s.cycles := by simp [State.write16]
@[simp] theorem State.write16_trace (x v : Word) (s : State) : (s.write16 x v).trace = s.trace ++ [.write x (loByte v), .write (x + 1) (hiByte v)] := by simp [State.write16]

/-! ### push16 -/

@[simp] theorem State.push16_a (v : Word) (s : State) : (s.push16 v).a = s.a := by simp [State.push16]
@[simp] theorem State.push16_b (v : Word) (s : State) : (s.push16 v).b = s.b := by simp [State.push16]
@[simp] theorem State.push16_c (v : Word) (s : State) : (s.push16 v).c = s.c := by simp [State.push16]
@[simp] theorem State.push16_d (v : Word) (s : State) : (s.push16 v).d = s.d := by simp [State.push16]
@[simp] theorem State.push16_e (v : Word) (s : State) : (s.push16 v).e = s.e := by simp [State.push16]
@[simp] theorem State.push16_h (v : Word) (s : State) : (s.push16 v).h = s.h := by simp [State.push16]
@[simp] theorem State.push16_l (v : Word) (s : State) : (s.push16 v).l = s.l := by simp [State.push16]
@[simp] theorem State.push16_f (v : Word) (s : State) : (s.push16 v).f = s.f := by simp [State.push16]
@[simp] theorem State.push16_sp (v : Word) (s : State) : (s.push16 v).sp = s.sp - 2 := by simp [State.push16, word_sub_one_sub_one]
@[simp] theorem State.push16_pc (v : Word) (s : State) : (s.push16 v).pc = s.pc := by simp [State.push16]
@[simp] theorem State.push16_halted (v : Word) (s : State) : (s.push16 v).halted = s.halted := by simp [State.push16]
@[simp] theorem State.push16_stopped (v : Word) (s : State) : (s.push16 v).stopped = s.stopped := by simp [State.push16]
@[simp] theorem State.push16_ime (v : Word) (s : State) : (s.push16 v).ime = s.ime := by simp [State.push16]
@[simp] theorem State.push16_env (v : Word) (s : State) : (s.push16 v).env = s.env := by simp [State.push16]
@[simp] theorem State.push16_deviceReads (v : Word) (s : State) : (s.push16 v).deviceReads = s.deviceReads := by simp [State.push16]
@[simp] theorem State.push16_cycles (v : Word) (s : State) : (s.push16 v).cycles = s.cycles := by simp [State.push16]
@[simp] theorem State.push16_trace (v : Word) (s : State) : (s.push16 v).trace = s.trace ++ [.write (s.sp - 1) (hiByte v), .write (s.sp - 2) (loByte v)] := by simp [State.push16, word_sub_one_sub_one]

/-! ### pop16 -/

@[simp] theorem State.pop16_snd_a (s : State) : (s.pop16.2).a = s.a := by simp [State.pop16]
@[simp] theorem State.pop16_snd_b (s : State) : (s.pop16.2).b = s.b := by simp [State.pop16]
@[simp] theorem State.pop16_snd_c (s : State) : (s.pop16.2).c = s.c := by simp [State.pop16]
@[simp] theorem State.pop16_snd_d (s : State) : (s.pop16.2).d = s.d := by simp [State.pop16]
@[simp] theorem State.pop16_snd_e (s : State) : (s.pop16.2).e = s.e := by simp [State.pop16]
@[simp] theorem State.pop16_snd_h (s : State) : (s.pop16.2).h = s.h := by simp [State.pop16]
@[simp] theorem State.pop16_snd_l (s : State) : (s.pop16.2).l = s.l := by simp [State.pop16]
@[simp] theorem State.pop16_snd_f (s : State) : (s.pop16.2).f = s.f := by simp [State.pop16]
@[simp] theorem State.pop16_snd_sp (s : State) : (s.pop16.2).sp = s.sp + 2 := by simp [State.pop16, word_add_one_add_one]
@[simp] theorem State.pop16_snd_pc (s : State) : (s.pop16.2).pc = s.pc := by simp [State.pop16]
@[simp] theorem State.pop16_snd_halted (s : State) : (s.pop16.2).halted = s.halted := by simp [State.pop16]
@[simp] theorem State.pop16_snd_stopped (s : State) : (s.pop16.2).stopped = s.stopped := by simp [State.pop16]
@[simp] theorem State.pop16_snd_ime (s : State) : (s.pop16.2).ime = s.ime := by simp [State.pop16]
@[simp] theorem State.pop16_snd_ieReg (s : State) : (s.pop16.2).ieReg = s.ieReg := by simp [State.pop16]
@[simp] theorem State.pop16_snd_ifReg (s : State) : (s.pop16.2).ifReg = s.ifReg := by simp [State.pop16]
@[simp] theorem State.pop16_snd_mem (s : State) : (s.pop16.2).mem = s.mem := by simp [State.pop16]
@[simp] theorem State.pop16_snd_env (s : State) : (s.pop16.2).env = s.env := by simp [State.pop16]
@[simp] theorem State.pop16_snd_cycles (s : State) : (s.pop16.2).cycles = s.cycles := by simp [State.pop16]

/-! ### Registers and pairs -/

@[simp] theorem State.getReg_setReg_same (r : Reg8) (v : Byte) (s : State) : (s.setReg r v).getReg r = v := by
  cases r <;> rfl

theorem State.getReg_setReg_other {r q : Reg8} (v : Byte) (s : State) (hne : q ≠ r) :
    (s.setReg r v).getReg q = s.getReg q := by
  cases r <;> cases q <;> first | rfl | exact absurd rfl hne

theorem State.getReg_setReg (r q : Reg8) (v : Byte) (s : State) :
    (s.setReg r v).getReg q = if q = r then v else s.getReg q := by
  cases r <;> cases q <;> rfl

/-- An update that leaves the seven registers leaves every `x[r]`. -/
theorem State.getReg_congr {s t : State} (ha : t.a = s.a) (hb : t.b = s.b) (hc : t.c = s.c) (hd : t.d = s.d)
    (he : t.e = s.e) (hh : t.h = s.h) (hl : t.l = s.l) (r : Reg8) : t.getReg r = s.getReg r := by
  cases r <;> assumption

/-- An update that leaves a pair's halves leaves the pair (HL). -/
theorem State.hl_congr {s t : State} (hh : t.h = s.h) (hl : t.l = s.l) : t.hl = s.hl := by
  unfold State.hl; rw [hh, hl]

end Sys2Proof.Machine
end

