-- ==== Sys2Proof/Laws/Memory.lean ====
section
/-! SUPPORT. Laws/Memory.lean: reading after storing, and that every operation on memory keeps its canonical
form. -/

namespace Sys2Proof.Machine

/-- An address below every listed one reads as the background. -/
theorem Memory.read_below {lo a : Nat} {m : Memory} (h : Memory.wfFrom lo m = true) (ha : a < lo) :
    Memory.read m a = Config.backgroundByte := by
  induction m generalizing lo with
  | nil => rfl
  | cons x m ih =>
    obtain ⟨k, w⟩ := x
    simp only [Memory.wfFrom, Bool.and_eq_true, decide_eq_true_eq] at h
    have hne : k ≠ a := by omega
    simp only [Memory.read, if_neg hne]
    exact ih h.2 (by omega)

theorem Memory.wfFrom_mono {lo lo' : Nat} {m : Memory} (h : Memory.wfFrom lo m = true) (hle : lo' ≤ lo) :
    Memory.wfFrom lo' m = true := by
  cases m with
  | nil => rfl
  | cons x m =>
    obtain ⟨k, w⟩ := x
    simp only [Memory.wfFrom, Bool.and_eq_true, decide_eq_true_eq] at h ⊢
    exact ⟨⟨⟨by omega, h.1.1.2⟩, h.1.2⟩, h.2⟩

/-- Storing keeps the canonical form. -/
theorem Memory.store_wfFrom {lo a : Nat} {v : Byte} {m : Memory} (h : Memory.wfFrom lo m = true) (hlo : lo ≤ a)
    (ha : a < 65536) : Memory.wfFrom lo (Memory.store m a v) = true := by
  induction m generalizing lo with
  | nil =>
    unfold Memory.store
    split
    · rfl
    · rename_i hv
      simp [Memory.wfFrom, hlo, ha, hv]
  | cons x m ih =>
    obtain ⟨k, w⟩ := x
    have h' := h
    simp only [Memory.wfFrom, Bool.and_eq_true, decide_eq_true_eq] at h'
    obtain ⟨⟨⟨hk, hk2⟩, hw⟩, hm⟩ := h'
    unfold Memory.store
    split
    · rename_i hak
      split
      · exact h
      · rename_i hv
        simp only [Memory.wfFrom, Bool.and_eq_true, decide_eq_true_eq]
        exact ⟨⟨⟨hlo, ha⟩, by simpa using hv⟩, ⟨⟨by omega, hk2⟩, hw⟩, hm⟩
    · split
      · rename_i heq
        subst heq
        split
        · exact Memory.wfFrom_mono hm (by omega)
        · rename_i hv
          simp only [Memory.wfFrom, Bool.and_eq_true, decide_eq_true_eq]
          exact ⟨⟨⟨hlo, ha⟩, by simpa using hv⟩, hm⟩
      · simp only [Memory.wfFrom, Bool.and_eq_true, decide_eq_true_eq]
        exact ⟨⟨⟨hk, hk2⟩, hw⟩, ih hm (by omega)⟩

/-- Storing keeps the canonical form. -/
theorem Memory.store_wf {m : Memory} {a : Nat} {v : Byte} (h : Memory.wf m = true) (ha : a < 65536) :
    Memory.wf (Memory.store m a v) = true := Memory.store_wfFrom h (Nat.zero_le a) ha

/-- A store leaves every other address alone. -/
theorem Memory.read_store_other (m : Memory) {a b : Nat} (v : Byte) (hne : b ≠ a) :
    Memory.read (Memory.store m a v) b = Memory.read m b := by
  induction m with
  | nil =>
    unfold Memory.store
    split
    · rfl
    · simp [Memory.read, Ne.symm hne]
  | cons x m ih =>
    obtain ⟨k, w⟩ := x
    unfold Memory.store
    split
    · split
      · rfl
      · simp [Memory.read, Ne.symm hne]
    · split
      · rename_i heq
        subst heq
        split <;> simp [Memory.read, Ne.symm hne]
      · simp only [Memory.read, ih]

theorem Memory.read_store_same_from {lo a : Nat} {v : Byte} {m : Memory} (h : Memory.wfFrom lo m = true) :
    Memory.read (Memory.store m a v) a = v := by
  induction m generalizing lo with
  | nil =>
    unfold Memory.store
    split
    · rename_i hv; exact hv.symm
    · simp [Memory.read]
  | cons x m ih =>
    obtain ⟨k, w⟩ := x
    have h' := h
    simp only [Memory.wfFrom, Bool.and_eq_true, decide_eq_true_eq] at h'
    unfold Memory.store
    split
    · rename_i hak
      split
      · rename_i hv
        have hne : k ≠ a := by omega
        simp only [Memory.read, if_neg hne]
        exact (Memory.read_below h'.2 (by omega)).trans hv.symm
      · simp [Memory.read]
    · split
      · rename_i heq
        subst heq
        split
        · rename_i hv
          exact (Memory.read_below h'.2 (by omega)).trans hv.symm
        · simp [Memory.read]
      · rename_i hne
        simp only [Memory.read, if_neg (Ne.symm hne)]
        exact ih h'.2

/-- A stored byte reads back. -/
theorem Memory.read_store_same {m : Memory} {a : Nat} {v : Byte} (h : Memory.wf m = true) :
    Memory.read (Memory.store m a v) a = v := Memory.read_store_same_from h

@[simp] theorem State.reset_mem_wf : Memory.wf State.reset.mem = true := rfl

theorem word_toNat_lt (a : Word) : a.toNat < 65536 := a.isLt

theorem word_toNat_ne {a b : Word} (h : a ≠ b) : a.toNat ≠ b.toNat := fun e => h (BitVec.eq_of_toNat_eq e)

end Sys2Proof.Machine
end

