-- ==== Sys2Proof/Laws/Ops.lean ====
section
/-! SUPPORT. Laws/Ops.lean: what each shared operation can do, said once: the flag layer, the ports, the stack,
the service step, the fetch stage, and the cases of a Step. -/

namespace Sys2Proof.Machine

/-! ### The flag layer -/

theorem getLsbD_putBit_same (v : Byte) (fl : Flag) (x : Bool) :
    (putBit v (Config.flagBit fl) x).getLsbD (Config.flagBit fl) = x := by
  cases fl <;> cases x <;> revert v <;> decide

theorem getLsbD_putBit_other (v : Byte) (fl gl : Flag) (x : Bool) (hne : gl ≠ fl) :
    (putBit v (Config.flagBit fl) x).getLsbD (Config.flagBit gl) = v.getLsbD (Config.flagBit gl) := by
  cases fl <;> cases gl <;> first | exact absurd rfl hne | (cases x <;> revert v <;> decide)

/-- The padding of F is not written by a flag. -/
theorem putBit_padding (v : Byte) (fl : Flag) (x : Bool) :
    putBit v (Config.flagBit fl) x &&& 0x0F = v &&& 0x0F := by
  cases fl <;> cases x <;> revert v <;> decide

@[simp] theorem State.getFlag_setFlag_same (fl : Flag) (x : Bool) (s : State) :
    (s.setFlag fl x).getFlag fl = x := getLsbD_putBit_same s.f fl x

theorem State.getFlag_setFlag_other {fl gl : Flag} (x : Bool) (s : State) (hne : gl ≠ fl) :
    (s.setFlag fl x).getFlag gl = s.getFlag gl := getLsbD_putBit_other s.f fl gl x hne

theorem State.getFlag_setFlag (fl gl : Flag) (x : Bool) (s : State) :
    (s.setFlag fl x).getFlag gl = if gl = fl then x else s.getFlag gl := by
  by_cases h : gl = fl
  · subst h; simp
  · rw [if_neg h]; exact State.getFlag_setFlag_other x s h

theorem State.setFlag_padding (fl : Flag) (x : Bool) (s : State) :
    (s.setFlag fl x).f &&& 0x0F = s.f &&& 0x0F := putBit_padding s.f fl x

theorem State.setFlags_padding (z n h c : Bool) (s : State) :
    (s.setFlags z n h c).f &&& 0x0F = s.f &&& 0x0F := by
  simp only [State.setFlags, State.setFlag_padding]

theorem State.getFlag_setFlags (z n h c : Bool) (s : State) (fl : Flag) :
    (s.setFlags z n h c).getFlag fl =
      match fl with
      | .zero => z
      | .subtract => n
      | .halfCarry => h
      | .carry => c := by
  unfold State.setFlags
  cases fl <;> simp [State.getFlag_setFlag]

/-- A flag is a bit of F alone. -/
theorem State.getFlag_congr {s t : State} (h : t.f = s.f) (fl : Flag) : t.getFlag fl = s.getFlag fl := by
  unfold State.getFlag; rw [h]

/-- Reading F whole gives its top nibble. -/
theorem State.readF_eq (s : State) : s.readF = s.f &&& 0xF0 := by
  unfold State.readF State.getFlag
  generalize s.f = f
  revert f; decide

/-! ### The memory port -/

/-- A read of a RAM cell gives the stored byte and changes nothing but the port's record. -/
theorem State.readByte_ram {s : State} {a : Word} (h : s.IsRam a) :
    s.readByte a = (s.peek a, s.record (.read a (s.peek a))) := by
  have h' : s.kindAt a = .ram := h
  simp [State.readByte, State.answer, h']

/-- A write to a RAM cell stores the byte and changes nothing else but the port's record. -/
theorem State.writeByte_ram {s : State} {a : Word} (v : Byte) (h : s.IsRam a) :
    s.writeByte a v = State.record (.write a v) { s with mem := Memory.store s.mem a.toNat v } := by
  have h' : s.kindAt a = .ram := h
  simp [State.writeByte, State.accept, h']

/-- What is declared of an address depends on the environment's map alone. -/
theorem State.kindAt_congr {s t : State} (h : t.env = s.env) (a : Word) : t.kindAt a = s.kindAt a := by
  unfold State.kindAt; rw [h]

/-- The stored bytes depend on memory alone. -/
theorem State.peek_congr {s t : State} (h : t.mem = s.mem) (a : Word) : t.peek a = s.peek a := by
  unfold State.peek; rw [h]

/-- A write leaves every other stored byte alone, whatever the cell is. -/
theorem State.writeByte_peek_other {a b : Word} (v : Byte) (s : State) (hne : b ≠ a) :
    (s.writeByte a v).peek b = s.peek b := by
  unfold State.writeByte State.accept
  split
  · exact Memory.read_store_other s.mem v (word_toNat_ne hne)
  all_goals rfl

/-- A byte written to a RAM cell is stored. -/
theorem State.writeByte_peek_same {a : Word} (v : Byte) {s : State} (hw : Memory.wf s.mem = true) (h : s.IsRam a) :
    (s.writeByte a v).peek a = v := by
  rw [State.writeByte_ram v h]
  exact Memory.read_store_same hw

/-- A write keeps memory's canonical form. -/
theorem State.writeByte_wf (a : Word) (v : Byte) {s : State} (h : Memory.wf s.mem = true) :
    Memory.wf (s.writeByte a v).mem = true := by
  unfold State.writeByte State.accept
  split
  · exact Memory.store_wf h (word_toNat_lt a)
  all_goals exact h

/-- A write reaches IE only through a cell routed to it. -/
theorem State.writeByte_ieReg {a : Word} (v : Byte) {s : State} (h : s.kindAt a ≠ .enableMask) :
    (s.writeByte a v).ieReg = s.ieReg := by
  unfold State.writeByte State.accept
  split <;> first | rfl | (rename_i hk; exact absurd hk h)

/-- A write reaches IF only through a cell routed to it. -/
theorem State.writeByte_ifReg {a : Word} (v : Byte) {s : State} (h : s.kindAt a ≠ .pendingFlags) :
    (s.writeByte a v).ifReg = s.ifReg := by
  unfold State.writeByte State.accept
  split <;> first | rfl | (rename_i hk; exact absurd hk h)

theorem setIF_top (x v : Byte) : ((x &&& 0xE0) ||| (v &&& 0x1F)) &&& 0xE0 = x &&& 0xE0 := by
  have h : (v &&& 0x1F) &&& 0xE0 = 0 := by revert v; decide
  have h2 : ∀ y z : Byte, (y ||| z) &&& 0xE0 = (y &&& 0xE0) ||| (z &&& 0xE0) := by
    intro y z; ext i; simp [Bool.and_or_distrib_right]
  rw [h2, h, BitVec.and_assoc]
  simp

/-- A write leaves IF[7:5] alone, whatever the cell is. -/
theorem State.writeByte_ifReg_top (a : Word) (v : Byte) (s : State) :
    (s.writeByte a v).ifReg &&& 0xE0 = s.ifReg &&& 0xE0 := by
  unfold State.writeByte State.accept
  split
  case h_5 => exact setIF_top s.ifReg v
  all_goals rfl

/-! ### What the ports leave of the operands -/

@[simp] theorem State.readByte_snd_hl (a : Word) (s : State) : (s.readByte a).2.hl = s.hl := by simp [State.hl]
@[simp] theorem State.readByte_snd_bc (a : Word) (s : State) : (s.readByte a).2.bc = s.bc := by simp [State.bc]
@[simp] theorem State.readByte_snd_de (a : Word) (s : State) : (s.readByte a).2.de = s.de := by simp [State.de]
@[simp] theorem State.readByte_snd_getReg (a : Word) (r : Reg8) (s : State) :
    (s.readByte a).2.getReg r = s.getReg r := by cases r <;> simp [State.getReg]
@[simp] theorem State.readByte_snd_getFlag (a : Word) (fl : Flag) (s : State) :
    (s.readByte a).2.getFlag fl = s.getFlag fl := by simp [State.getFlag]
@[simp] theorem State.readByte_snd_peek (a b : Word) (s : State) : (s.readByte a).2.peek b = s.peek b :=
  State.peek_congr (by simp) b
@[simp] theorem State.readByte_snd_kindAt (a b : Word) (s : State) : (s.readByte a).2.kindAt b = s.kindAt b :=
  State.kindAt_congr (by simp) b
@[simp] theorem State.writeByte_hl (a : Word) (v : Byte) (s : State) : (s.writeByte a v).hl = s.hl := by
  simp [State.hl]
@[simp] theorem State.writeByte_getReg (a : Word) (v : Byte) (r : Reg8) (s : State) :
    (s.writeByte a v).getReg r = s.getReg r := by cases r <;> simp [State.getReg]
@[simp] theorem State.writeByte_getFlag (a : Word) (v : Byte) (fl : Flag) (s : State) :
    (s.writeByte a v).getFlag fl = s.getFlag fl := by simp [State.getFlag]
@[simp] theorem State.writeByte_kindAt (a b : Word) (v : Byte) (s : State) :
    (s.writeByte a v).kindAt b = s.kindAt b := State.kindAt_congr (by simp) b
@[simp] theorem State.setFlag_peek (fl : Flag) (x : Bool) (b : Word) (s : State) :
    (s.setFlag fl x).peek b = s.peek b := rfl
@[simp] theorem State.setFlags_peek (z n h c : Bool) (b : Word) (s : State) :
    (s.setFlags z n h c).peek b = s.peek b := rfl
@[simp] theorem State.setReg_peek (r : Reg8) (v : Byte) (b : Word) (s : State) :
    (s.setReg r v).peek b = s.peek b := State.peek_congr (by simp) b
@[simp] theorem State.setHL_peek (v b : Word) (s : State) : (s.setHL v).peek b = s.peek b := rfl
@[simp] theorem State.setPair_peek (rp : Pair) (v b : Word) (s : State) : (s.setPair rp v).peek b = s.peek b :=
  State.peek_congr (by simp) b
@[simp] theorem State.setStackPair_peek (rp2 : StackPair) (v b : Word) (s : State) :
    (s.setStackPair rp2 v).peek b = s.peek b := State.peek_congr (by simp) b
@[simp] theorem State.jumpTo_peek (v b : Word) (s : State) : (s.jumpTo v).peek b = s.peek b := rfl
@[simp] theorem State.pop16_snd_peek (b : Word) (s : State) : s.pop16.2.peek b = s.peek b :=
  State.peek_congr (by simp) b
@[simp] theorem State.took_peek (k : Nat) (b : Word) (s : State) : (s.took k).peek b = s.peek b := rfl

/-! ### The stack -/

/-- `Push16` is two writes, the high byte first (20_memory.md R65). -/
theorem State.push16_eq (v : Word) (s : State) :
    s.push16 v =
      State.writeByte (s.sp - 2) (loByte v)
        { State.writeByte (s.sp - 1) (hiByte v) { s with sp := s.sp - 1 } with sp := s.sp - 2 } := by
  simp [State.push16, word_sub_one_sub_one]

theorem State.push16_peek_other {b : Word} (v : Word) (s : State) (h1 : b ≠ s.sp - 1) (h2 : b ≠ s.sp - 2) :
    (s.push16 v).peek b = s.peek b := by
  rw [State.push16_eq, State.writeByte_peek_other _ _ h2]
  exact State.writeByte_peek_other (hiByte v) { s with sp := s.sp - 1 } h1

theorem State.push16_wf (v : Word) {s : State} (h : Memory.wf s.mem = true) :
    Memory.wf (s.push16 v).mem = true := by
  rw [State.push16_eq]
  exact State.writeByte_wf _ _ (State.writeByte_wf (s.sp - 1) (hiByte v) (s := { s with sp := s.sp - 1 }) h)

theorem State.push16_ifReg_top (v : Word) (s : State) :
    (s.push16 v).ifReg &&& 0xE0 = s.ifReg &&& 0xE0 := by
  rw [State.push16_eq, State.writeByte_ifReg_top]
  exact State.writeByte_ifReg_top (s.sp - 1) (hiByte v) { s with sp := s.sp - 1 }

theorem loByte_joinBytes (h l : Byte) : loByte (joinBytes h l) = l := by
  unfold loByte joinBytes
  apply BitVec.eq_of_getLsbD_eq
  intro i hi
  have e := BitVec.getLsbD_append (x := h) (y := l) (i := i)
  simp only [hi] at e
  simpa [hi] using e

theorem hiByte_joinBytes (h l : Byte) : hiByte (joinBytes h l) = h := by
  unfold hiByte joinBytes
  apply BitVec.eq_of_getLsbD_eq
  intro i hi
  have e := BitVec.getLsbD_append (x := h) (y := l) (i := 8 + i)
  have h8 : ¬ 8 + i < 8 := by omega
  simp only [h8, Nat.add_sub_cancel_left] at e
  simpa [hi] using e

theorem joinBytes_hi_lo (v : Word) : joinBytes (hiByte v) (loByte v) = v := by
  unfold joinBytes hiByte loByte
  apply BitVec.eq_of_getLsbD_eq
  intro i hi
  rw [BitVec.getLsbD_append]
  by_cases h8 : i < 8
  · simp [h8]
  · have h9 : i - 8 < 8 := by omega
    have h10 : 8 + (i - 8) = i := by omega
    simp [h8, h9, h10]

/-- `Pop16` is two reads, the low byte first. -/
theorem State.pop16_trace (s : State) :
    s.pop16.2.trace = s.trace ++ [.read s.sp (loByte s.pop16.1), .read (s.sp + 1) (hiByte s.pop16.1)] := by
  simp [State.pop16, loByte_joinBytes, hiByte_joinBytes]

/-! ### The interrupt controller and the service step -/

theorem putBit_irq_top (v : Byte) (i : IrqType) (x : Bool) :
    putBit v (Config.irqBit i) x &&& 0xE0 = v &&& 0xE0 := by
  cases i <;> cases x <;> revert v <;> decide

/-- The service step's transition: what it writes, in terms of the state before (60_exceptions.md R350). -/
theorem takeInterrupt_eq (i : IrqType) (s : State) :
    takeInterrupt i s =
      { State.push16 s.pc { s with ime := false, ifReg := putBit s.ifReg (Config.irqBit i) false } with
        pc := vectorOf i, halted := false, cycles := 20 } := rfl

/-- The service step finds a type only with IME set. -/
theorem serviceable_some {s : State} {i : IrqType} (h : serviceable s = some i) :
    s.ime = true ∧ s.highestPriority = some i := by
  unfold serviceable at h
  split at h
  · exact ⟨‹_›, h⟩
  · exact absurd h (by simp)

@[simp] theorem serviceable_clearOutputs (s : State) : serviceable s.clearOutputs = serviceable s := rfl

@[simp] theorem haltWake_clearOutputs (s : State) : haltWake s.clearOutputs = haltWake s := rfl

/-! ### The Step -/

/-- Everything a Step can be (47_dispatch.md R330). -/
theorem step_cases (s : State) :
    (s.stopped = true ∧ step s = .next (s.clearOutputs.took Config.stopIdleCycles)) ∨
    (s.stopped = false ∧ ∃ i, serviceable s = some i ∧ step s = .next (takeInterrupt i s.clearOutputs)) ∨
    (s.stopped = false ∧ serviceable s = none ∧ s.halted = true ∧ haltWake s = false ∧
      step s = .next (s.clearOutputs.took Config.haltIdleCycles)) ∨
    (s.stopped = false ∧ serviceable s = none ∧ (s.halted = true → haltWake s = true) ∧
      step s = fetchAndExecute { s.clearOutputs with halted := false }) := by
  unfold step stepSequence
  by_cases hs : s.stopped = true
  · exact .inl ⟨hs, by simp [hs]⟩
  have hs' : s.stopped = false := by simpa using hs
  refine .inr ?_
  cases hsv : serviceable s with
  | some i => exact .inl ⟨hs', i, rfl, by simp [hs', hsv]⟩
  | none =>
    refine .inr ?_
    by_cases hh : s.halted = true
    · by_cases hw : haltWake s = true
      · exact .inr ⟨hs', rfl, fun _ => hw, by simp [hs', hsv, hh, hw]⟩
      · have hw' : haltWake s = false := by simpa using hw
        exact .inl ⟨hs', rfl, hh, hw', by simp [hs', hsv, hh, hw']⟩
    · have hh' : s.halted = false := by simpa using hh
      refine .inr ⟨hs', rfl, fun h => absurd h hh, ?_⟩
      have hsame : ({ s.clearOutputs with halted := false } : State) = s.clearOutputs := by
        cases s; simp_all [State.clearOutputs]
      rw [hsame]
      simp [hs', hsv, hh']

/-- Reading an instruction byte: the byte the port gives, PC one further. -/
theorem State.fetchByte_eq (s : State) :
    s.fetchByte = ((s.readByte s.pc).1, { (s.readByte s.pc).2 with pc := s.pc + 1 }) := by
  simp [State.fetchByte]

end Sys2Proof.Machine
end

