-- ==== Sys2Proof/Laws/Forms.lean ====
section
/-! SUPPORT. Laws/Forms.lean: the instructions and the forms are the same things, and what exec does with each form,
said once: a claim over all 502 instructions becomes one over the forms. -/

namespace Sys2Proof

/-- The form of an instruction. -/
def Form.ofInstr : Instr → Form
  | .nop => .nop
  | .ld_BC_nn nn => .ldPairImm .BC nn
  | .ld_mBC_A => .ldPtrA .BC
  | .inc_BC => .incPair .BC
  | .inc_B => .inc8 (.reg .B)
  | .dec_B => .dec8 (.reg .B)
  | .ld_B_n n => .ldRegImm .B n
  | .rlca => .accRot .rlca
  | .ld_mnn_SP nn => .ldAbsSP nn
  | .add_HL_BC => .addHL .BC
  | .ld_A_mBC => .ldAPtr .BC
  | .dec_BC => .decPair .BC
  | .inc_C => .inc8 (.reg .C)
  | .dec_C => .dec8 (.reg .C)
  | .ld_C_n n => .ldRegImm .C n
  | .rrca => .accRot .rrca
  | .stop => .stop
  | .ld_DE_nn nn => .ldPairImm .DE nn
  | .ld_mDE_A => .ldPtrA .DE
  | .inc_DE => .incPair .DE
  | .inc_D => .inc8 (.reg .D)
  | .dec_D => .dec8 (.reg .D)
  | .ld_D_n n => .ldRegImm .D n
  | .rla => .accRot .rla
  | .jr_d d => .jr d
  | .add_HL_DE => .addHL .DE
  | .ld_A_mDE => .ldAPtr .DE
  | .dec_DE => .decPair .DE
  | .inc_E => .inc8 (.reg .E)
  | .dec_E => .dec8 (.reg .E)
  | .ld_E_n n => .ldRegImm .E n
  | .rra => .accRot .rra
  | .jr_NZ_d d => .jrCond .NZ d
  | .ld_HL_nn nn => .ldPairImm .HL nn
  | .ld_mHLI_A => .ldIncA
  | .inc_HL => .incPair .HL
  | .inc_H => .inc8 (.reg .H)
  | .dec_H => .dec8 (.reg .H)
  | .ld_H_n n => .ldRegImm .H n
  | .daa => .daa
  | .jr_Z_d d => .jrCond .Z d
  | .add_HL_HL => .addHL .HL
  | .ld_A_mHLI => .ldAInc
  | .dec_HL => .decPair .HL
  | .inc_L => .inc8 (.reg .L)
  | .dec_L => .dec8 (.reg .L)
  | .ld_L_n n => .ldRegImm .L n
  | .cpl => .cpl
  | .jr_NC_d d => .jrCond .NC d
  | .ld_SP_nn nn => .ldPairImm .SP nn
  | .ld_mHLD_A => .ldDecA
  | .inc_SP => .incPair .SP
  | .inc_mHL => .inc8 .mHL
  | .dec_mHL => .dec8 .mHL
  | .ld_mHL_n n => .ldMemImm n
  | .scf => .scf
  | .jr_C_d d => .jrCond .C d
  | .add_HL_SP => .addHL .SP
  | .ld_A_mHLD => .ldADec
  | .dec_SP => .decPair .SP
  | .inc_A => .inc8 (.reg .A)
  | .dec_A => .dec8 (.reg .A)
  | .ld_A_n n => .ldRegImm .A n
  | .ccf => .ccf
  | .ld_B_B => .ldRegReg .B .B
  | .ld_B_C => .ldRegReg .B .C
  | .ld_B_D => .ldRegReg .B .D
  | .ld_B_E => .ldRegReg .B .E
  | .ld_B_H => .ldRegReg .B .H
  | .ld_B_L => .ldRegReg .B .L
  | .ld_B_mHL => .ldRegMem .B
  | .ld_B_A => .ldRegReg .B .A
  | .ld_C_B => .ldRegReg .C .B
  | .ld_C_C => .ldRegReg .C .C
  | .ld_C_D => .ldRegReg .C .D
  | .ld_C_E => .ldRegReg .C .E
  | .ld_C_H => .ldRegReg .C .H
  | .ld_C_L => .ldRegReg .C .L
  | .ld_C_mHL => .ldRegMem .C
  | .ld_C_A => .ldRegReg .C .A
  | .ld_D_B => .ldRegReg .D .B
  | .ld_D_C => .ldRegReg .D .C
  | .ld_D_D => .ldRegReg .D .D
  | .ld_D_E => .ldRegReg .D .E
  | .ld_D_H => .ldRegReg .D .H
  | .ld_D_L => .ldRegReg .D .L
  | .ld_D_mHL => .ldRegMem .D
  | .ld_D_A => .ldRegReg .D .A
  | .ld_E_B => .ldRegReg .E .B
  | .ld_E_C => .ldRegReg .E .C
  | .ld_E_D => .ldRegReg .E .D
  | .ld_E_E => .ldRegReg .E .E
  | .ld_E_H => .ldRegReg .E .H
  | .ld_E_L => .ldRegReg .E .L
  | .ld_E_mHL => .ldRegMem .E
  | .ld_E_A => .ldRegReg .E .A
  | .ld_H_B => .ldRegReg .H .B
  | .ld_H_C => .ldRegReg .H .C
  | .ld_H_D => .ldRegReg .H .D
  | .ld_H_E => .ldRegReg .H .E
  | .ld_H_H => .ldRegReg .H .H
  | .ld_H_L => .ldRegReg .H .L
  | .ld_H_mHL => .ldRegMem .H
  | .ld_H_A => .ldRegReg .H .A
  | .ld_L_B => .ldRegReg .L .B
  | .ld_L_C => .ldRegReg .L .C
  | .ld_L_D => .ldRegReg .L .D
  | .ld_L_E => .ldRegReg .L .E
  | .ld_L_H => .ldRegReg .L .H
  | .ld_L_L => .ldRegReg .L .L
  | .ld_L_mHL => .ldRegMem .L
  | .ld_L_A => .ldRegReg .L .A
  | .ld_mHL_B => .ldMemReg .B
  | .ld_mHL_C => .ldMemReg .C
  | .ld_mHL_D => .ldMemReg .D
  | .ld_mHL_E => .ldMemReg .E
  | .ld_mHL_H => .ldMemReg .H
  | .ld_mHL_L => .ldMemReg .L
  | .halt => .halt
  | .ld_mHL_A => .ldMemReg .A
  | .ld_A_B => .ldRegReg .A .B
  | .ld_A_C => .ldRegReg .A .C
  | .ld_A_D => .ldRegReg .A .D
  | .ld_A_E => .ldRegReg .A .E
  | .ld_A_H => .ldRegReg .A .H
  | .ld_A_L => .ldRegReg .A .L
  | .ld_A_mHL => .ldRegMem .A
  | .ld_A_A => .ldRegReg .A .A
  | .add_A_B => .alu .add (.reg .B)
  | .add_A_C => .alu .add (.reg .C)
  | .add_A_D => .alu .add (.reg .D)
  | .add_A_E => .alu .add (.reg .E)
  | .add_A_H => .alu .add (.reg .H)
  | .add_A_L => .alu .add (.reg .L)
  | .add_A_mHL => .alu .add .mHL
  | .add_A_A => .alu .add (.reg .A)
  | .adc_A_B => .alu .adc (.reg .B)
  | .adc_A_C => .alu .adc (.reg .C)
  | .adc_A_D => .alu .adc (.reg .D)
  | .adc_A_E => .alu .adc (.reg .E)
  | .adc_A_H => .alu .adc (.reg .H)
  | .adc_A_L => .alu .adc (.reg .L)
  | .adc_A_mHL => .alu .adc .mHL
  | .adc_A_A => .alu .adc (.reg .A)
  | .sub_B => .alu .sub (.reg .B)
  | .sub_C => .alu .sub (.reg .C)
  | .sub_D => .alu .sub (.reg .D)
  | .sub_E => .alu .sub (.reg .E)
  | .sub_H => .alu .sub (.reg .H)
  | .sub_L => .alu .sub (.reg .L)
  | .sub_mHL => .alu .sub .mHL
  | .sub_A => .alu .sub (.reg .A)
  | .sbc_A_B => .alu .sbc (.reg .B)
  | .sbc_A_C => .alu .sbc (.reg .C)
  | .sbc_A_D => .alu .sbc (.reg .D)
  | .sbc_A_E => .alu .sbc (.reg .E)
  | .sbc_A_H => .alu .sbc (.reg .H)
  | .sbc_A_L => .alu .sbc (.reg .L)
  | .sbc_A_mHL => .alu .sbc .mHL
  | .sbc_A_A => .alu .sbc (.reg .A)
  | .and_B => .alu .and (.reg .B)
  | .and_C => .alu .and (.reg .C)
  | .and_D => .alu .and (.reg .D)
  | .and_E => .alu .and (.reg .E)
  | .and_H => .alu .and (.reg .H)
  | .and_L => .alu .and (.reg .L)
  | .and_mHL => .alu .and .mHL
  | .and_A => .alu .and (.reg .A)
  | .xor_B => .alu .xor (.reg .B)
  | .xor_C => .alu .xor (.reg .C)
  | .xor_D => .alu .xor (.reg .D)
  | .xor_E => .alu .xor (.reg .E)
  | .xor_H => .alu .xor (.reg .H)
  | .xor_L => .alu .xor (.reg .L)
  | .xor_mHL => .alu .xor .mHL
  | .xor_A => .alu .xor (.reg .A)
  | .or_B => .alu .or (.reg .B)
  | .or_C => .alu .or (.reg .C)
  | .or_D => .alu .or (.reg .D)
  | .or_E => .alu .or (.reg .E)
  | .or_H => .alu .or (.reg .H)
  | .or_L => .alu .or (.reg .L)
  | .or_mHL => .alu .or .mHL
  | .or_A => .alu .or (.reg .A)
  | .cp_B => .alu .cp (.reg .B)
  | .cp_C => .alu .cp (.reg .C)
  | .cp_D => .alu .cp (.reg .D)
  | .cp_E => .alu .cp (.reg .E)
  | .cp_H => .alu .cp (.reg .H)
  | .cp_L => .alu .cp (.reg .L)
  | .cp_mHL => .alu .cp .mHL
  | .cp_A => .alu .cp (.reg .A)
  | .ret_NZ => .retCond .NZ
  | .pop_BC => .pop .BC
  | .jp_NZ_nn nn => .jpCond .NZ nn
  | .jp_nn nn => .jp nn
  | .call_NZ_nn nn => .callCond .NZ nn
  | .push_BC => .push .BC
  | .add_A_n n => .aluImm .add n
  | .rst_00 => .rst .o0
  | .ret_Z => .retCond .Z
  | .ret => .ret
  | .jp_Z_nn nn => .jpCond .Z nn
  | .escape e => .escape e
  | .call_Z_nn nn => .callCond .Z nn
  | .call_nn nn => .call nn
  | .adc_A_n n => .aluImm .adc n
  | .rst_08 => .rst .o1
  | .ret_NC => .retCond .NC
  | .pop_DE => .pop .DE
  | .jp_NC_nn nn => .jpCond .NC nn
  | .invalid op => .invalid op
  | .call_NC_nn nn => .callCond .NC nn
  | .push_DE => .push .DE
  | .sub_n n => .aluImm .sub n
  | .rst_10 => .rst .o2
  | .ret_C => .retCond .C
  | .reti => .reti
  | .jp_C_nn nn => .jpCond .C nn
  | .call_C_nn nn => .callCond .C nn
  | .sbc_A_n n => .aluImm .sbc n
  | .rst_18 => .rst .o3
  | .ldh_mn_A n => .ldhImmA n
  | .pop_HL => .pop .HL
  | .ld_mC_A => .ldIoCA
  | .push_HL => .push .HL
  | .and_n n => .aluImm .and n
  | .rst_20 => .rst .o4
  | .add_SP_d d => .addSP d
  | .jp_mHL => .jpHL
  | .ld_mnn_A nn => .ldAbsA nn
  | .xor_n n => .aluImm .xor n
  | .rst_28 => .rst .o5
  | .ldh_A_mn n => .ldhAImm n
  | .pop_AF => .pop .AF
  | .ld_A_mC => .ldAIoC
  | .di => .di
  | .push_AF => .push .AF
  | .or_n n => .aluImm .or n
  | .rst_30 => .rst .o6
  | .ld_HL_SPd d => .ldHLSP d
  | .ld_SP_HL => .ldSPHL
  | .ld_A_mnn nn => .ldAAbs nn
  | .ei => .ei
  | .cp_n n => .aluImm .cp n
  | .rst_38 => .rst .o7
  | .rlc_B => .ext (.rot .rlc (.reg .B))
  | .rlc_C => .ext (.rot .rlc (.reg .C))
  | .rlc_D => .ext (.rot .rlc (.reg .D))
  | .rlc_E => .ext (.rot .rlc (.reg .E))
  | .rlc_H => .ext (.rot .rlc (.reg .H))
  | .rlc_L => .ext (.rot .rlc (.reg .L))
  | .rlc_mHL => .ext (.rot .rlc .mHL)
  | .rlc_A => .ext (.rot .rlc (.reg .A))
  | .rrc_B => .ext (.rot .rrc (.reg .B))
  | .rrc_C => .ext (.rot .rrc (.reg .C))
  | .rrc_D => .ext (.rot .rrc (.reg .D))
  | .rrc_E => .ext (.rot .rrc (.reg .E))
  | .rrc_H => .ext (.rot .rrc (.reg .H))
  | .rrc_L => .ext (.rot .rrc (.reg .L))
  | .rrc_mHL => .ext (.rot .rrc .mHL)
  | .rrc_A => .ext (.rot .rrc (.reg .A))
  | .rl_B => .ext (.rot .rl (.reg .B))
  | .rl_C => .ext (.rot .rl (.reg .C))
  | .rl_D => .ext (.rot .rl (.reg .D))
  | .rl_E => .ext (.rot .rl (.reg .E))
  | .rl_H => .ext (.rot .rl (.reg .H))
  | .rl_L => .ext (.rot .rl (.reg .L))
  | .rl_mHL => .ext (.rot .rl .mHL)
  | .rl_A => .ext (.rot .rl (.reg .A))
  | .rr_B => .ext (.rot .rr (.reg .B))
  | .rr_C => .ext (.rot .rr (.reg .C))
  | .rr_D => .ext (.rot .rr (.reg .D))
  | .rr_E => .ext (.rot .rr (.reg .E))
  | .rr_H => .ext (.rot .rr (.reg .H))
  | .rr_L => .ext (.rot .rr (.reg .L))
  | .rr_mHL => .ext (.rot .rr .mHL)
  | .rr_A => .ext (.rot .rr (.reg .A))
  | .sla_B => .ext (.rot .sla (.reg .B))
  | .sla_C => .ext (.rot .sla (.reg .C))
  | .sla_D => .ext (.rot .sla (.reg .D))
  | .sla_E => .ext (.rot .sla (.reg .E))
  | .sla_H => .ext (.rot .sla (.reg .H))
  | .sla_L => .ext (.rot .sla (.reg .L))
  | .sla_mHL => .ext (.rot .sla .mHL)
  | .sla_A => .ext (.rot .sla (.reg .A))
  | .sra_B => .ext (.rot .sra (.reg .B))
  | .sra_C => .ext (.rot .sra (.reg .C))
  | .sra_D => .ext (.rot .sra (.reg .D))
  | .sra_E => .ext (.rot .sra (.reg .E))
  | .sra_H => .ext (.rot .sra (.reg .H))
  | .sra_L => .ext (.rot .sra (.reg .L))
  | .sra_mHL => .ext (.rot .sra .mHL)
  | .sra_A => .ext (.rot .sra (.reg .A))
  | .swap_B => .ext (.rot .swap (.reg .B))
  | .swap_C => .ext (.rot .swap (.reg .C))
  | .swap_D => .ext (.rot .swap (.reg .D))
  | .swap_E => .ext (.rot .swap (.reg .E))
  | .swap_H => .ext (.rot .swap (.reg .H))
  | .swap_L => .ext (.rot .swap (.reg .L))
  | .swap_mHL => .ext (.rot .swap .mHL)
  | .swap_A => .ext (.rot .swap (.reg .A))
  | .srl_B => .ext (.rot .srl (.reg .B))
  | .srl_C => .ext (.rot .srl (.reg .C))
  | .srl_D => .ext (.rot .srl (.reg .D))
  | .srl_E => .ext (.rot .srl (.reg .E))
  | .srl_H => .ext (.rot .srl (.reg .H))
  | .srl_L => .ext (.rot .srl (.reg .L))
  | .srl_mHL => .ext (.rot .srl .mHL)
  | .srl_A => .ext (.rot .srl (.reg .A))
  | .bit_0_B => .ext (.bit .o0 (.reg .B))
  | .bit_0_C => .ext (.bit .o0 (.reg .C))
  | .bit_0_D => .ext (.bit .o0 (.reg .D))
  | .bit_0_E => .ext (.bit .o0 (.reg .E))
  | .bit_0_H => .ext (.bit .o0 (.reg .H))
  | .bit_0_L => .ext (.bit .o0 (.reg .L))
  | .bit_0_mHL => .ext (.bit .o0 .mHL)
  | .bit_0_A => .ext (.bit .o0 (.reg .A))
  | .bit_1_B => .ext (.bit .o1 (.reg .B))
  | .bit_1_C => .ext (.bit .o1 (.reg .C))
  | .bit_1_D => .ext (.bit .o1 (.reg .D))
  | .bit_1_E => .ext (.bit .o1 (.reg .E))
  | .bit_1_H => .ext (.bit .o1 (.reg .H))
  | .bit_1_L => .ext (.bit .o1 (.reg .L))
  | .bit_1_mHL => .ext (.bit .o1 .mHL)
  | .bit_1_A => .ext (.bit .o1 (.reg .A))
  | .bit_2_B => .ext (.bit .o2 (.reg .B))
  | .bit_2_C => .ext (.bit .o2 (.reg .C))
  | .bit_2_D => .ext (.bit .o2 (.reg .D))
  | .bit_2_E => .ext (.bit .o2 (.reg .E))
  | .bit_2_H => .ext (.bit .o2 (.reg .H))
  | .bit_2_L => .ext (.bit .o2 (.reg .L))
  | .bit_2_mHL => .ext (.bit .o2 .mHL)
  | .bit_2_A => .ext (.bit .o2 (.reg .A))
  | .bit_3_B => .ext (.bit .o3 (.reg .B))
  | .bit_3_C => .ext (.bit .o3 (.reg .C))
  | .bit_3_D => .ext (.bit .o3 (.reg .D))
  | .bit_3_E => .ext (.bit .o3 (.reg .E))
  | .bit_3_H => .ext (.bit .o3 (.reg .H))
  | .bit_3_L => .ext (.bit .o3 (.reg .L))
  | .bit_3_mHL => .ext (.bit .o3 .mHL)
  | .bit_3_A => .ext (.bit .o3 (.reg .A))
  | .bit_4_B => .ext (.bit .o4 (.reg .B))
  | .bit_4_C => .ext (.bit .o4 (.reg .C))
  | .bit_4_D => .ext (.bit .o4 (.reg .D))
  | .bit_4_E => .ext (.bit .o4 (.reg .E))
  | .bit_4_H => .ext (.bit .o4 (.reg .H))
  | .bit_4_L => .ext (.bit .o4 (.reg .L))
  | .bit_4_mHL => .ext (.bit .o4 .mHL)
  | .bit_4_A => .ext (.bit .o4 (.reg .A))
  | .bit_5_B => .ext (.bit .o5 (.reg .B))
  | .bit_5_C => .ext (.bit .o5 (.reg .C))
  | .bit_5_D => .ext (.bit .o5 (.reg .D))
  | .bit_5_E => .ext (.bit .o5 (.reg .E))
  | .bit_5_H => .ext (.bit .o5 (.reg .H))
  | .bit_5_L => .ext (.bit .o5 (.reg .L))
  | .bit_5_mHL => .ext (.bit .o5 .mHL)
  | .bit_5_A => .ext (.bit .o5 (.reg .A))
  | .bit_6_B => .ext (.bit .o6 (.reg .B))
  | .bit_6_C => .ext (.bit .o6 (.reg .C))
  | .bit_6_D => .ext (.bit .o6 (.reg .D))
  | .bit_6_E => .ext (.bit .o6 (.reg .E))
  | .bit_6_H => .ext (.bit .o6 (.reg .H))
  | .bit_6_L => .ext (.bit .o6 (.reg .L))
  | .bit_6_mHL => .ext (.bit .o6 .mHL)
  | .bit_6_A => .ext (.bit .o6 (.reg .A))
  | .bit_7_B => .ext (.bit .o7 (.reg .B))
  | .bit_7_C => .ext (.bit .o7 (.reg .C))
  | .bit_7_D => .ext (.bit .o7 (.reg .D))
  | .bit_7_E => .ext (.bit .o7 (.reg .E))
  | .bit_7_H => .ext (.bit .o7 (.reg .H))
  | .bit_7_L => .ext (.bit .o7 (.reg .L))
  | .bit_7_mHL => .ext (.bit .o7 .mHL)
  | .bit_7_A => .ext (.bit .o7 (.reg .A))
  | .res_0_B => .ext (.res .o0 (.reg .B))
  | .res_0_C => .ext (.res .o0 (.reg .C))
  | .res_0_D => .ext (.res .o0 (.reg .D))
  | .res_0_E => .ext (.res .o0 (.reg .E))
  | .res_0_H => .ext (.res .o0 (.reg .H))
  | .res_0_L => .ext (.res .o0 (.reg .L))
  | .res_0_mHL => .ext (.res .o0 .mHL)
  | .res_0_A => .ext (.res .o0 (.reg .A))
  | .res_1_B => .ext (.res .o1 (.reg .B))
  | .res_1_C => .ext (.res .o1 (.reg .C))
  | .res_1_D => .ext (.res .o1 (.reg .D))
  | .res_1_E => .ext (.res .o1 (.reg .E))
  | .res_1_H => .ext (.res .o1 (.reg .H))
  | .res_1_L => .ext (.res .o1 (.reg .L))
  | .res_1_mHL => .ext (.res .o1 .mHL)
  | .res_1_A => .ext (.res .o1 (.reg .A))
  | .res_2_B => .ext (.res .o2 (.reg .B))
  | .res_2_C => .ext (.res .o2 (.reg .C))
  | .res_2_D => .ext (.res .o2 (.reg .D))
  | .res_2_E => .ext (.res .o2 (.reg .E))
  | .res_2_H => .ext (.res .o2 (.reg .H))
  | .res_2_L => .ext (.res .o2 (.reg .L))
  | .res_2_mHL => .ext (.res .o2 .mHL)
  | .res_2_A => .ext (.res .o2 (.reg .A))
  | .res_3_B => .ext (.res .o3 (.reg .B))
  | .res_3_C => .ext (.res .o3 (.reg .C))
  | .res_3_D => .ext (.res .o3 (.reg .D))
  | .res_3_E => .ext (.res .o3 (.reg .E))
  | .res_3_H => .ext (.res .o3 (.reg .H))
  | .res_3_L => .ext (.res .o3 (.reg .L))
  | .res_3_mHL => .ext (.res .o3 .mHL)
  | .res_3_A => .ext (.res .o3 (.reg .A))
  | .res_4_B => .ext (.res .o4 (.reg .B))
  | .res_4_C => .ext (.res .o4 (.reg .C))
  | .res_4_D => .ext (.res .o4 (.reg .D))
  | .res_4_E => .ext (.res .o4 (.reg .E))
  | .res_4_H => .ext (.res .o4 (.reg .H))
  | .res_4_L => .ext (.res .o4 (.reg .L))
  | .res_4_mHL => .ext (.res .o4 .mHL)
  | .res_4_A => .ext (.res .o4 (.reg .A))
  | .res_5_B => .ext (.res .o5 (.reg .B))
  | .res_5_C => .ext (.res .o5 (.reg .C))
  | .res_5_D => .ext (.res .o5 (.reg .D))
  | .res_5_E => .ext (.res .o5 (.reg .E))
  | .res_5_H => .ext (.res .o5 (.reg .H))
  | .res_5_L => .ext (.res .o5 (.reg .L))
  | .res_5_mHL => .ext (.res .o5 .mHL)
  | .res_5_A => .ext (.res .o5 (.reg .A))
  | .res_6_B => .ext (.res .o6 (.reg .B))
  | .res_6_C => .ext (.res .o6 (.reg .C))
  | .res_6_D => .ext (.res .o6 (.reg .D))
  | .res_6_E => .ext (.res .o6 (.reg .E))
  | .res_6_H => .ext (.res .o6 (.reg .H))
  | .res_6_L => .ext (.res .o6 (.reg .L))
  | .res_6_mHL => .ext (.res .o6 .mHL)
  | .res_6_A => .ext (.res .o6 (.reg .A))
  | .res_7_B => .ext (.res .o7 (.reg .B))
  | .res_7_C => .ext (.res .o7 (.reg .C))
  | .res_7_D => .ext (.res .o7 (.reg .D))
  | .res_7_E => .ext (.res .o7 (.reg .E))
  | .res_7_H => .ext (.res .o7 (.reg .H))
  | .res_7_L => .ext (.res .o7 (.reg .L))
  | .res_7_mHL => .ext (.res .o7 .mHL)
  | .res_7_A => .ext (.res .o7 (.reg .A))
  | .set_0_B => .ext (.set .o0 (.reg .B))
  | .set_0_C => .ext (.set .o0 (.reg .C))
  | .set_0_D => .ext (.set .o0 (.reg .D))
  | .set_0_E => .ext (.set .o0 (.reg .E))
  | .set_0_H => .ext (.set .o0 (.reg .H))
  | .set_0_L => .ext (.set .o0 (.reg .L))
  | .set_0_mHL => .ext (.set .o0 .mHL)
  | .set_0_A => .ext (.set .o0 (.reg .A))
  | .set_1_B => .ext (.set .o1 (.reg .B))
  | .set_1_C => .ext (.set .o1 (.reg .C))
  | .set_1_D => .ext (.set .o1 (.reg .D))
  | .set_1_E => .ext (.set .o1 (.reg .E))
  | .set_1_H => .ext (.set .o1 (.reg .H))
  | .set_1_L => .ext (.set .o1 (.reg .L))
  | .set_1_mHL => .ext (.set .o1 .mHL)
  | .set_1_A => .ext (.set .o1 (.reg .A))
  | .set_2_B => .ext (.set .o2 (.reg .B))
  | .set_2_C => .ext (.set .o2 (.reg .C))
  | .set_2_D => .ext (.set .o2 (.reg .D))
  | .set_2_E => .ext (.set .o2 (.reg .E))
  | .set_2_H => .ext (.set .o2 (.reg .H))
  | .set_2_L => .ext (.set .o2 (.reg .L))
  | .set_2_mHL => .ext (.set .o2 .mHL)
  | .set_2_A => .ext (.set .o2 (.reg .A))
  | .set_3_B => .ext (.set .o3 (.reg .B))
  | .set_3_C => .ext (.set .o3 (.reg .C))
  | .set_3_D => .ext (.set .o3 (.reg .D))
  | .set_3_E => .ext (.set .o3 (.reg .E))
  | .set_3_H => .ext (.set .o3 (.reg .H))
  | .set_3_L => .ext (.set .o3 (.reg .L))
  | .set_3_mHL => .ext (.set .o3 .mHL)
  | .set_3_A => .ext (.set .o3 (.reg .A))
  | .set_4_B => .ext (.set .o4 (.reg .B))
  | .set_4_C => .ext (.set .o4 (.reg .C))
  | .set_4_D => .ext (.set .o4 (.reg .D))
  | .set_4_E => .ext (.set .o4 (.reg .E))
  | .set_4_H => .ext (.set .o4 (.reg .H))
  | .set_4_L => .ext (.set .o4 (.reg .L))
  | .set_4_mHL => .ext (.set .o4 .mHL)
  | .set_4_A => .ext (.set .o4 (.reg .A))
  | .set_5_B => .ext (.set .o5 (.reg .B))
  | .set_5_C => .ext (.set .o5 (.reg .C))
  | .set_5_D => .ext (.set .o5 (.reg .D))
  | .set_5_E => .ext (.set .o5 (.reg .E))
  | .set_5_H => .ext (.set .o5 (.reg .H))
  | .set_5_L => .ext (.set .o5 (.reg .L))
  | .set_5_mHL => .ext (.set .o5 .mHL)
  | .set_5_A => .ext (.set .o5 (.reg .A))
  | .set_6_B => .ext (.set .o6 (.reg .B))
  | .set_6_C => .ext (.set .o6 (.reg .C))
  | .set_6_D => .ext (.set .o6 (.reg .D))
  | .set_6_E => .ext (.set .o6 (.reg .E))
  | .set_6_H => .ext (.set .o6 (.reg .H))
  | .set_6_L => .ext (.set .o6 (.reg .L))
  | .set_6_mHL => .ext (.set .o6 .mHL)
  | .set_6_A => .ext (.set .o6 (.reg .A))
  | .set_7_B => .ext (.set .o7 (.reg .B))
  | .set_7_C => .ext (.set .o7 (.reg .C))
  | .set_7_D => .ext (.set .o7 (.reg .D))
  | .set_7_E => .ext (.set .o7 (.reg .E))
  | .set_7_H => .ext (.set .o7 (.reg .H))
  | .set_7_L => .ext (.set .o7 (.reg .L))
  | .set_7_mHL => .ext (.set .o7 .mHL)
  | .set_7_A => .ext (.set .o7 (.reg .A))

/-- Every instruction is its form's instruction. -/
theorem Form.toInstr_ofInstr (i : Instr) : (Form.ofInstr i).toInstr = i := by cases i <;> rfl

/-- Every form is its instruction's form. -/
theorem Form.ofInstr_toInstr (f : Form) : Form.ofInstr f.toInstr = f := by
  cases f with
  | nop => rfl
  | halt => rfl
  | stop => rfl
  | di => rfl
  | ei => rfl
  | escape e => rfl
  | invalid op => rfl
  | ldRegReg d r => cases d <;> cases r <;> rfl
  | ldRegImm d n => cases d <;> rfl
  | ldRegMem d => cases d <;> rfl
  | ldMemReg r => cases r <;> rfl
  | ldMemImm n => rfl
  | ldAPtr p => cases p <;> rfl
  | ldPtrA p => cases p <;> rfl
  | ldAAbs nn => rfl
  | ldAbsA nn => rfl
  | ldhAImm n => rfl
  | ldhImmA n => rfl
  | ldAIoC => rfl
  | ldIoCA => rfl
  | ldIncA => rfl
  | ldAInc => rfl
  | ldDecA => rfl
  | ldADec => rfl
  | ldPairImm rp nn => cases rp <;> rfl
  | ldSPHL => rfl
  | ldAbsSP nn => rfl
  | ldHLSP d => rfl
  | push rp2 => cases rp2 <;> rfl
  | pop rp2 => cases rp2 <;> rfl
  | inc8 o => rcases o with r | _ <;> (try cases r) <;> rfl
  | dec8 o => rcases o with r | _ <;> (try cases r) <;> rfl
  | alu op o => cases op <;> rcases o with r | _ <;> (try cases r) <;> rfl
  | aluImm op n => cases op <;> rfl
  | accRot k => cases k <;> rfl
  | daa => rfl
  | cpl => rfl
  | scf => rfl
  | ccf => rfl
  | addHL rp => cases rp <;> rfl
  | addSP d => rfl
  | incPair rp => cases rp <;> rfl
  | decPair rp => cases rp <;> rfl
  | jp nn => rfl
  | jpCond cc nn => cases cc <;> rfl
  | jpHL => rfl
  | jr d => rfl
  | jrCond cc d => cases cc <;> rfl
  | call nn => rfl
  | callCond cc nn => cases cc <;> rfl
  | ret => rfl
  | retCond cc => cases cc <;> rfl
  | reti => rfl
  | rst t => cases t <;> rfl
  | ext x =>
    rcases x with ⟨op, o⟩ | ⟨b, o⟩ | ⟨b, o⟩ | ⟨b, o⟩
    · cases op <;> rcases o with r | _ <;> (try cases r) <;> rfl
    all_goals cases b <;> rcases o with r | _ <;> (try cases r) <;> rfl

/-- A claim over the forms is one over the instructions. -/
theorem Instr.forall_of_forms {P : Instr → Prop} (h : ∀ f : Form, P f.toInstr) (i : Instr) : P i :=
  Form.toInstr_ofInstr i ▸ h (Form.ofInstr i)

end Sys2Proof

namespace Sys2Proof.Machine

/-- What exec answers on a form's instruction. -/
def effectOf (f : Form) (s : State) : Result :=
  match f with
  | .nop => .next (doNop s)
  | .halt => .next (doHalt s)
  | .stop => .next (doStop s)
  | .di => .next (doDi s)
  | .ei => .next (doEi s)
  | .escape e => execEscape e s
  | .invalid op => execInvalid op s
  | .ldRegReg d r => .next (doLdRegReg d r s)
  | .ldRegImm d n => .next (doLdRegImm d n s)
  | .ldRegMem d => .next (doLdRegMem d s)
  | .ldMemReg r => .next (doLdMemReg r s)
  | .ldMemImm n => .next (doLdMemImm n s)
  | .ldAPtr p => .next (doLdAPtr p s)
  | .ldPtrA p => .next (doLdPtrA p s)
  | .ldAAbs nn => .next (doLdAAbs nn s)
  | .ldAbsA nn => .next (doLdAbsA nn s)
  | .ldhAImm n => .next (doLdhAImm n s)
  | .ldhImmA n => .next (doLdhImmA n s)
  | .ldAIoC => .next (doLdAIoC s)
  | .ldIoCA => .next (doLdIoCA s)
  | .ldIncA => .next (doLdIncA s)
  | .ldAInc => .next (doLdAInc s)
  | .ldDecA => .next (doLdDecA s)
  | .ldADec => .next (doLdADec s)
  | .ldPairImm rp nn => .next (doLdPairImm rp nn s)
  | .ldSPHL => .next (doLdSPHL s)
  | .ldAbsSP nn => .next (doLdAbsSP nn s)
  | .ldHLSP d => .next (doLdHLSP d s)
  | .push rp2 => .next (doPush rp2 s)
  | .pop rp2 => .next (doPop rp2 s)
  | .inc8 o => .next (doInc8 o s)
  | .dec8 o => .next (doDec8 o s)
  | .alu op o => .next (doAlu op o s)
  | .aluImm op n => .next (doAluImm op n s)
  | .accRot k => .next (doAccRot k s)
  | .daa => .next (doDaa s)
  | .cpl => .next (doCpl s)
  | .scf => .next (doScf s)
  | .ccf => .next (doCcf s)
  | .addHL rp => .next (doAddHL rp s)
  | .addSP d => .next (doAddSP d s)
  | .incPair rp => .next (doIncPair rp s)
  | .decPair rp => .next (doDecPair rp s)
  | .jp nn => .next (doJp nn s)
  | .jpCond cc nn => .next (doJpCond cc nn s)
  | .jpHL => .next (doJpHL s)
  | .jr d => .next (doJr d s)
  | .jrCond cc d => .next (doJrCond cc d s)
  | .call nn => .next (doCall nn s)
  | .callCond cc nn => .next (doCallCond cc nn s)
  | .ret => .next (doRet s)
  | .retCond cc => .next (doRetCond cc s)
  | .reti => .next (doReti s)
  | .rst t => .next (doRst t s)
  | .ext x => .next (viaEscape (extHandler x s))

/-- exec on a form's instruction is the form's effect. -/
theorem exec_toInstr (f : Form) (s : State) : exec f.toInstr s = effectOf f s := by
  cases f with
  | nop => rfl
  | halt => rfl
  | stop => rfl
  | di => rfl
  | ei => rfl
  | escape e => rfl
  | invalid op => rfl
  | ldRegReg d r => cases d <;> cases r <;> rfl
  | ldRegImm d n => cases d <;> rfl
  | ldRegMem d => cases d <;> rfl
  | ldMemReg r => cases r <;> rfl
  | ldMemImm n => rfl
  | ldAPtr p => cases p <;> rfl
  | ldPtrA p => cases p <;> rfl
  | ldAAbs nn => rfl
  | ldAbsA nn => rfl
  | ldhAImm n => rfl
  | ldhImmA n => rfl
  | ldAIoC => rfl
  | ldIoCA => rfl
  | ldIncA => rfl
  | ldAInc => rfl
  | ldDecA => rfl
  | ldADec => rfl
  | ldPairImm rp nn => cases rp <;> rfl
  | ldSPHL => rfl
  | ldAbsSP nn => rfl
  | ldHLSP d => rfl
  | push rp2 => cases rp2 <;> rfl
  | pop rp2 => cases rp2 <;> rfl
  | inc8 o => rcases o with r | _ <;> (try cases r) <;> rfl
  | dec8 o => rcases o with r | _ <;> (try cases r) <;> rfl
  | alu op o => cases op <;> rcases o with r | _ <;> (try cases r) <;> rfl
  | aluImm op n => cases op <;> rfl
  | accRot k => cases k <;> rfl
  | daa => rfl
  | cpl => rfl
  | scf => rfl
  | ccf => rfl
  | addHL rp => cases rp <;> rfl
  | addSP d => rfl
  | incPair rp => cases rp <;> rfl
  | decPair rp => cases rp <;> rfl
  | jp nn => rfl
  | jpCond cc nn => cases cc <;> rfl
  | jpHL => rfl
  | jr d => rfl
  | jrCond cc d => cases cc <;> rfl
  | call nn => rfl
  | callCond cc nn => cases cc <;> rfl
  | ret => rfl
  | retCond cc => cases cc <;> rfl
  | reti => rfl
  | rst t => cases t <;> rfl
  | ext x =>
    rcases x with ⟨op, o⟩ | ⟨b, o⟩ | ⟨b, o⟩ | ⟨b, o⟩
    · cases op <;> rcases o with r | _ <;> (try cases r) <;> rfl
    all_goals cases b <;> rcases o with r | _ <;> (try cases r) <;> rfl

/-- The escape with a supplied extended byte is that byte's handler, with the escape's cycles. -/
theorem effectOf_escape (e : Byte) (s : State) (h : e ∉ Config.unimplExtended) :
    effectOf (.escape e) s = .next (viaEscape (extHandler (extendedForm e) s)) := by
  simp [effectOf, execEscape, executeExtended, h]

end Sys2Proof.Machine
end

