-- ==== Sys2Proof/Laws/PerInstr.lean ====
section
/-! SUPPORT. Laws/PerInstr.lean: what is said of every instruction as syntax, one lemma per constructor. -/

namespace Sys2Proof.Laws

/-- The bytes of a well-formed instruction are as many as its first byte says (30_encoding.md R92). -/
def EncodedLength.Statement (i : Instr) : Prop :=
  WellFormed i = true → ∀ op rest, encode i = op :: rest → (encode i).length = (primarySlot op).length

theorem encodedLength_of {i : Instr} (op : Byte) (rest : List Byte) (h : encode i = op :: rest)
    (hl : (op :: rest).length = (primarySlot op).length) : EncodedLength.Statement i := by
  intro _ op' rest' h'
  rw [h] at h' ⊢
  obtain ⟨rfl, rfl⟩ := List.cons.inj h'
  exact hl

theorem EncodedLength.nop : EncodedLength.Statement .nop := encodedLength_of _ _ rfl rfl
theorem EncodedLength.ld_BC_nn (nn : Word) : EncodedLength.Statement (.ld_BC_nn nn) := encodedLength_of _ _ rfl rfl
theorem EncodedLength.ld_mBC_A : EncodedLength.Statement .ld_mBC_A := encodedLength_of _ _ rfl rfl
theorem EncodedLength.inc_BC : EncodedLength.Statement .inc_BC := encodedLength_of _ _ rfl rfl
theorem EncodedLength.inc_B : EncodedLength.Statement .inc_B := encodedLength_of _ _ rfl rfl
theorem EncodedLength.dec_B : EncodedLength.Statement .dec_B := encodedLength_of _ _ rfl rfl
theorem EncodedLength.ld_B_n (n : Byte) : EncodedLength.Statement (.ld_B_n n) := encodedLength_of _ _ rfl rfl
theorem EncodedLength.rlca : EncodedLength.Statement .rlca := encodedLength_of _ _ rfl rfl
theorem EncodedLength.ld_mnn_SP (nn : Word) : EncodedLength.Statement (.ld_mnn_SP nn) := encodedLength_of _ _ rfl rfl
theorem EncodedLength.add_HL_BC : EncodedLength.Statement .add_HL_BC := encodedLength_of _ _ rfl rfl
theorem EncodedLength.ld_A_mBC : EncodedLength.Statement .ld_A_mBC := encodedLength_of _ _ rfl rfl
theorem EncodedLength.dec_BC : EncodedLength.Statement .dec_BC := encodedLength_of _ _ rfl rfl
theorem EncodedLength.inc_C : EncodedLength.Statement .inc_C := encodedLength_of _ _ rfl rfl
theorem EncodedLength.dec_C : EncodedLength.Statement .dec_C := encodedLength_of _ _ rfl rfl
theorem EncodedLength.ld_C_n (n : Byte) : EncodedLength.Statement (.ld_C_n n) := encodedLength_of _ _ rfl rfl
theorem EncodedLength.rrca : EncodedLength.Statement .rrca := encodedLength_of _ _ rfl rfl
theorem EncodedLength.stop : EncodedLength.Statement .stop := encodedLength_of _ _ rfl rfl
theorem EncodedLength.ld_DE_nn (nn : Word) : EncodedLength.Statement (.ld_DE_nn nn) := encodedLength_of _ _ rfl rfl
theorem EncodedLength.ld_mDE_A : EncodedLength.Statement .ld_mDE_A := encodedLength_of _ _ rfl rfl
theorem EncodedLength.inc_DE : EncodedLength.Statement .inc_DE := encodedLength_of _ _ rfl rfl
theorem EncodedLength.inc_D : EncodedLength.Statement .inc_D := encodedLength_of _ _ rfl rfl
theorem EncodedLength.dec_D : EncodedLength.Statement .dec_D := encodedLength_of _ _ rfl rfl
theorem EncodedLength.ld_D_n (n : Byte) : EncodedLength.Statement (.ld_D_n n) := encodedLength_of _ _ rfl rfl
theorem EncodedLength.rla : EncodedLength.Statement .rla := encodedLength_of _ _ rfl rfl
theorem EncodedLength.jr_d (d : Byte) : EncodedLength.Statement (.jr_d d) := encodedLength_of _ _ rfl rfl
theorem EncodedLength.add_HL_DE : EncodedLength.Statement .add_HL_DE := encodedLength_of _ _ rfl rfl
theorem EncodedLength.ld_A_mDE : EncodedLength.Statement .ld_A_mDE := encodedLength_of _ _ rfl rfl
theorem EncodedLength.dec_DE : EncodedLength.Statement .dec_DE := encodedLength_of _ _ rfl rfl
theorem EncodedLength.inc_E : EncodedLength.Statement .inc_E := encodedLength_of _ _ rfl rfl
theorem EncodedLength.dec_E : EncodedLength.Statement .dec_E := encodedLength_of _ _ rfl rfl
theorem EncodedLength.ld_E_n (n : Byte) : EncodedLength.Statement (.ld_E_n n) := encodedLength_of _ _ rfl rfl
theorem EncodedLength.rra : EncodedLength.Statement .rra := encodedLength_of _ _ rfl rfl
theorem EncodedLength.jr_NZ_d (d : Byte) : EncodedLength.Statement (.jr_NZ_d d) := encodedLength_of _ _ rfl rfl
theorem EncodedLength.ld_HL_nn (nn : Word) : EncodedLength.Statement (.ld_HL_nn nn) := encodedLength_of _ _ rfl rfl
theorem EncodedLength.ld_mHLI_A : EncodedLength.Statement .ld_mHLI_A := encodedLength_of _ _ rfl rfl
theorem EncodedLength.inc_HL : EncodedLength.Statement .inc_HL := encodedLength_of _ _ rfl rfl
theorem EncodedLength.inc_H : EncodedLength.Statement .inc_H := encodedLength_of _ _ rfl rfl
theorem EncodedLength.dec_H : EncodedLength.Statement .dec_H := encodedLength_of _ _ rfl rfl
theorem EncodedLength.ld_H_n (n : Byte) : EncodedLength.Statement (.ld_H_n n) := encodedLength_of _ _ rfl rfl
theorem EncodedLength.daa : EncodedLength.Statement .daa := encodedLength_of _ _ rfl rfl
theorem EncodedLength.jr_Z_d (d : Byte) : EncodedLength.Statement (.jr_Z_d d) := encodedLength_of _ _ rfl rfl
theorem EncodedLength.add_HL_HL : EncodedLength.Statement .add_HL_HL := encodedLength_of _ _ rfl rfl
theorem EncodedLength.ld_A_mHLI : EncodedLength.Statement .ld_A_mHLI := encodedLength_of _ _ rfl rfl
theorem EncodedLength.dec_HL : EncodedLength.Statement .dec_HL := encodedLength_of _ _ rfl rfl
theorem EncodedLength.inc_L : EncodedLength.Statement .inc_L := encodedLength_of _ _ rfl rfl
theorem EncodedLength.dec_L : EncodedLength.Statement .dec_L := encodedLength_of _ _ rfl rfl
theorem EncodedLength.ld_L_n (n : Byte) : EncodedLength.Statement (.ld_L_n n) := encodedLength_of _ _ rfl rfl
theorem EncodedLength.cpl : EncodedLength.Statement .cpl := encodedLength_of _ _ rfl rfl
theorem EncodedLength.jr_NC_d (d : Byte) : EncodedLength.Statement (.jr_NC_d d) := encodedLength_of _ _ rfl rfl
theorem EncodedLength.ld_SP_nn (nn : Word) : EncodedLength.Statement (.ld_SP_nn nn) := encodedLength_of _ _ rfl rfl
theorem EncodedLength.ld_mHLD_A : EncodedLength.Statement .ld_mHLD_A := encodedLength_of _ _ rfl rfl
theorem EncodedLength.inc_SP : EncodedLength.Statement .inc_SP := encodedLength_of _ _ rfl rfl
theorem EncodedLength.inc_mHL : EncodedLength.Statement .inc_mHL := encodedLength_of _ _ rfl rfl
theorem EncodedLength.dec_mHL : EncodedLength.Statement .dec_mHL := encodedLength_of _ _ rfl rfl
theorem EncodedLength.ld_mHL_n (n : Byte) : EncodedLength.Statement (.ld_mHL_n n) := encodedLength_of _ _ rfl rfl
theorem EncodedLength.scf : EncodedLength.Statement .scf := encodedLength_of _ _ rfl rfl
theorem EncodedLength.jr_C_d (d : Byte) : EncodedLength.Statement (.jr_C_d d) := encodedLength_of _ _ rfl rfl
theorem EncodedLength.add_HL_SP : EncodedLength.Statement .add_HL_SP := encodedLength_of _ _ rfl rfl
theorem EncodedLength.ld_A_mHLD : EncodedLength.Statement .ld_A_mHLD := encodedLength_of _ _ rfl rfl
theorem EncodedLength.dec_SP : EncodedLength.Statement .dec_SP := encodedLength_of _ _ rfl rfl
theorem EncodedLength.inc_A : EncodedLength.Statement .inc_A := encodedLength_of _ _ rfl rfl
theorem EncodedLength.dec_A : EncodedLength.Statement .dec_A := encodedLength_of _ _ rfl rfl
theorem EncodedLength.ld_A_n (n : Byte) : EncodedLength.Statement (.ld_A_n n) := encodedLength_of _ _ rfl rfl
theorem EncodedLength.ccf : EncodedLength.Statement .ccf := encodedLength_of _ _ rfl rfl
theorem EncodedLength.ld_B_B : EncodedLength.Statement .ld_B_B := encodedLength_of _ _ rfl rfl
theorem EncodedLength.ld_B_C : EncodedLength.Statement .ld_B_C := encodedLength_of _ _ rfl rfl
theorem EncodedLength.ld_B_D : EncodedLength.Statement .ld_B_D := encodedLength_of _ _ rfl rfl
theorem EncodedLength.ld_B_E : EncodedLength.Statement .ld_B_E := encodedLength_of _ _ rfl rfl
theorem EncodedLength.ld_B_H : EncodedLength.Statement .ld_B_H := encodedLength_of _ _ rfl rfl
theorem EncodedLength.ld_B_L : EncodedLength.Statement .ld_B_L := encodedLength_of _ _ rfl rfl
theorem EncodedLength.ld_B_mHL : EncodedLength.Statement .ld_B_mHL := encodedLength_of _ _ rfl rfl
theorem EncodedLength.ld_B_A : EncodedLength.Statement .ld_B_A := encodedLength_of _ _ rfl rfl
theorem EncodedLength.ld_C_B : EncodedLength.Statement .ld_C_B := encodedLength_of _ _ rfl rfl
theorem EncodedLength.ld_C_C : EncodedLength.Statement .ld_C_C := encodedLength_of _ _ rfl rfl
theorem EncodedLength.ld_C_D : EncodedLength.Statement .ld_C_D := encodedLength_of _ _ rfl rfl
theorem EncodedLength.ld_C_E : EncodedLength.Statement .ld_C_E := encodedLength_of _ _ rfl rfl
theorem EncodedLength.ld_C_H : EncodedLength.Statement .ld_C_H := encodedLength_of _ _ rfl rfl
theorem EncodedLength.ld_C_L : EncodedLength.Statement .ld_C_L := encodedLength_of _ _ rfl rfl
theorem EncodedLength.ld_C_mHL : EncodedLength.Statement .ld_C_mHL := encodedLength_of _ _ rfl rfl
theorem EncodedLength.ld_C_A : EncodedLength.Statement .ld_C_A := encodedLength_of _ _ rfl rfl
theorem EncodedLength.ld_D_B : EncodedLength.Statement .ld_D_B := encodedLength_of _ _ rfl rfl
theorem EncodedLength.ld_D_C : EncodedLength.Statement .ld_D_C := encodedLength_of _ _ rfl rfl
theorem EncodedLength.ld_D_D : EncodedLength.Statement .ld_D_D := encodedLength_of _ _ rfl rfl
theorem EncodedLength.ld_D_E : EncodedLength.Statement .ld_D_E := encodedLength_of _ _ rfl rfl
theorem EncodedLength.ld_D_H : EncodedLength.Statement .ld_D_H := encodedLength_of _ _ rfl rfl
theorem EncodedLength.ld_D_L : EncodedLength.Statement .ld_D_L := encodedLength_of _ _ rfl rfl
theorem EncodedLength.ld_D_mHL : EncodedLength.Statement .ld_D_mHL := encodedLength_of _ _ rfl rfl
theorem EncodedLength.ld_D_A : EncodedLength.Statement .ld_D_A := encodedLength_of _ _ rfl rfl
theorem EncodedLength.ld_E_B : EncodedLength.Statement .ld_E_B := encodedLength_of _ _ rfl rfl
theorem EncodedLength.ld_E_C : EncodedLength.Statement .ld_E_C := encodedLength_of _ _ rfl rfl
theorem EncodedLength.ld_E_D : EncodedLength.Statement .ld_E_D := encodedLength_of _ _ rfl rfl
theorem EncodedLength.ld_E_E : EncodedLength.Statement .ld_E_E := encodedLength_of _ _ rfl rfl
theorem EncodedLength.ld_E_H : EncodedLength.Statement .ld_E_H := encodedLength_of _ _ rfl rfl
theorem EncodedLength.ld_E_L : EncodedLength.Statement .ld_E_L := encodedLength_of _ _ rfl rfl
theorem EncodedLength.ld_E_mHL : EncodedLength.Statement .ld_E_mHL := encodedLength_of _ _ rfl rfl
theorem EncodedLength.ld_E_A : EncodedLength.Statement .ld_E_A := encodedLength_of _ _ rfl rfl
theorem EncodedLength.ld_H_B : EncodedLength.Statement .ld_H_B := encodedLength_of _ _ rfl rfl
theorem EncodedLength.ld_H_C : EncodedLength.Statement .ld_H_C := encodedLength_of _ _ rfl rfl
theorem EncodedLength.ld_H_D : EncodedLength.Statement .ld_H_D := encodedLength_of _ _ rfl rfl
theorem EncodedLength.ld_H_E : EncodedLength.Statement .ld_H_E := encodedLength_of _ _ rfl rfl
theorem EncodedLength.ld_H_H : EncodedLength.Statement .ld_H_H := encodedLength_of _ _ rfl rfl
theorem EncodedLength.ld_H_L : EncodedLength.Statement .ld_H_L := encodedLength_of _ _ rfl rfl
theorem EncodedLength.ld_H_mHL : EncodedLength.Statement .ld_H_mHL := encodedLength_of _ _ rfl rfl
theorem EncodedLength.ld_H_A : EncodedLength.Statement .ld_H_A := encodedLength_of _ _ rfl rfl
theorem EncodedLength.ld_L_B : EncodedLength.Statement .ld_L_B := encodedLength_of _ _ rfl rfl
theorem EncodedLength.ld_L_C : EncodedLength.Statement .ld_L_C := encodedLength_of _ _ rfl rfl
theorem EncodedLength.ld_L_D : EncodedLength.Statement .ld_L_D := encodedLength_of _ _ rfl rfl
theorem EncodedLength.ld_L_E : EncodedLength.Statement .ld_L_E := encodedLength_of _ _ rfl rfl
theorem EncodedLength.ld_L_H : EncodedLength.Statement .ld_L_H := encodedLength_of _ _ rfl rfl
theorem EncodedLength.ld_L_L : EncodedLength.Statement .ld_L_L := encodedLength_of _ _ rfl rfl
theorem EncodedLength.ld_L_mHL : EncodedLength.Statement .ld_L_mHL := encodedLength_of _ _ rfl rfl
theorem EncodedLength.ld_L_A : EncodedLength.Statement .ld_L_A := encodedLength_of _ _ rfl rfl
theorem EncodedLength.ld_mHL_B : EncodedLength.Statement .ld_mHL_B := encodedLength_of _ _ rfl rfl
theorem EncodedLength.ld_mHL_C : EncodedLength.Statement .ld_mHL_C := encodedLength_of _ _ rfl rfl
theorem EncodedLength.ld_mHL_D : EncodedLength.Statement .ld_mHL_D := encodedLength_of _ _ rfl rfl
theorem EncodedLength.ld_mHL_E : EncodedLength.Statement .ld_mHL_E := encodedLength_of _ _ rfl rfl
theorem EncodedLength.ld_mHL_H : EncodedLength.Statement .ld_mHL_H := encodedLength_of _ _ rfl rfl
theorem EncodedLength.ld_mHL_L : EncodedLength.Statement .ld_mHL_L := encodedLength_of _ _ rfl rfl
theorem EncodedLength.halt : EncodedLength.Statement .halt := encodedLength_of _ _ rfl rfl
theorem EncodedLength.ld_mHL_A : EncodedLength.Statement .ld_mHL_A := encodedLength_of _ _ rfl rfl
theorem EncodedLength.ld_A_B : EncodedLength.Statement .ld_A_B := encodedLength_of _ _ rfl rfl
theorem EncodedLength.ld_A_C : EncodedLength.Statement .ld_A_C := encodedLength_of _ _ rfl rfl
theorem EncodedLength.ld_A_D : EncodedLength.Statement .ld_A_D := encodedLength_of _ _ rfl rfl
theorem EncodedLength.ld_A_E : EncodedLength.Statement .ld_A_E := encodedLength_of _ _ rfl rfl
theorem EncodedLength.ld_A_H : EncodedLength.Statement .ld_A_H := encodedLength_of _ _ rfl rfl
theorem EncodedLength.ld_A_L : EncodedLength.Statement .ld_A_L := encodedLength_of _ _ rfl rfl
theorem EncodedLength.ld_A_mHL : EncodedLength.Statement .ld_A_mHL := encodedLength_of _ _ rfl rfl
theorem EncodedLength.ld_A_A : EncodedLength.Statement .ld_A_A := encodedLength_of _ _ rfl rfl
theorem EncodedLength.add_A_B : EncodedLength.Statement .add_A_B := encodedLength_of _ _ rfl rfl
theorem EncodedLength.add_A_C : EncodedLength.Statement .add_A_C := encodedLength_of _ _ rfl rfl
theorem EncodedLength.add_A_D : EncodedLength.Statement .add_A_D := encodedLength_of _ _ rfl rfl
theorem EncodedLength.add_A_E : EncodedLength.Statement .add_A_E := encodedLength_of _ _ rfl rfl
theorem EncodedLength.add_A_H : EncodedLength.Statement .add_A_H := encodedLength_of _ _ rfl rfl
theorem EncodedLength.add_A_L : EncodedLength.Statement .add_A_L := encodedLength_of _ _ rfl rfl
theorem EncodedLength.add_A_mHL : EncodedLength.Statement .add_A_mHL := encodedLength_of _ _ rfl rfl
theorem EncodedLength.add_A_A : EncodedLength.Statement .add_A_A := encodedLength_of _ _ rfl rfl
theorem EncodedLength.adc_A_B : EncodedLength.Statement .adc_A_B := encodedLength_of _ _ rfl rfl
theorem EncodedLength.adc_A_C : EncodedLength.Statement .adc_A_C := encodedLength_of _ _ rfl rfl
theorem EncodedLength.adc_A_D : EncodedLength.Statement .adc_A_D := encodedLength_of _ _ rfl rfl
theorem EncodedLength.adc_A_E : EncodedLength.Statement .adc_A_E := encodedLength_of _ _ rfl rfl
theorem EncodedLength.adc_A_H : EncodedLength.Statement .adc_A_H := encodedLength_of _ _ rfl rfl
theorem EncodedLength.adc_A_L : EncodedLength.Statement .adc_A_L := encodedLength_of _ _ rfl rfl
theorem EncodedLength.adc_A_mHL : EncodedLength.Statement .adc_A_mHL := encodedLength_of _ _ rfl rfl
theorem EncodedLength.adc_A_A : EncodedLength.Statement .adc_A_A := encodedLength_of _ _ rfl rfl
theorem EncodedLength.sub_B : EncodedLength.Statement .sub_B := encodedLength_of _ _ rfl rfl
theorem EncodedLength.sub_C : EncodedLength.Statement .sub_C := encodedLength_of _ _ rfl rfl
theorem EncodedLength.sub_D : EncodedLength.Statement .sub_D := encodedLength_of _ _ rfl rfl
theorem EncodedLength.sub_E : EncodedLength.Statement .sub_E := encodedLength_of _ _ rfl rfl
theorem EncodedLength.sub_H : EncodedLength.Statement .sub_H := encodedLength_of _ _ rfl rfl
theorem EncodedLength.sub_L : EncodedLength.Statement .sub_L := encodedLength_of _ _ rfl rfl
theorem EncodedLength.sub_mHL : EncodedLength.Statement .sub_mHL := encodedLength_of _ _ rfl rfl
theorem EncodedLength.sub_A : EncodedLength.Statement .sub_A := encodedLength_of _ _ rfl rfl
theorem EncodedLength.sbc_A_B : EncodedLength.Statement .sbc_A_B := encodedLength_of _ _ rfl rfl
theorem EncodedLength.sbc_A_C : EncodedLength.Statement .sbc_A_C := encodedLength_of _ _ rfl rfl
theorem EncodedLength.sbc_A_D : EncodedLength.Statement .sbc_A_D := encodedLength_of _ _ rfl rfl
theorem EncodedLength.sbc_A_E : EncodedLength.Statement .sbc_A_E := encodedLength_of _ _ rfl rfl
theorem EncodedLength.sbc_A_H : EncodedLength.Statement .sbc_A_H := encodedLength_of _ _ rfl rfl
theorem EncodedLength.sbc_A_L : EncodedLength.Statement .sbc_A_L := encodedLength_of _ _ rfl rfl
theorem EncodedLength.sbc_A_mHL : EncodedLength.Statement .sbc_A_mHL := encodedLength_of _ _ rfl rfl
theorem EncodedLength.sbc_A_A : EncodedLength.Statement .sbc_A_A := encodedLength_of _ _ rfl rfl
theorem EncodedLength.and_B : EncodedLength.Statement .and_B := encodedLength_of _ _ rfl rfl
theorem EncodedLength.and_C : EncodedLength.Statement .and_C := encodedLength_of _ _ rfl rfl
theorem EncodedLength.and_D : EncodedLength.Statement .and_D := encodedLength_of _ _ rfl rfl
theorem EncodedLength.and_E : EncodedLength.Statement .and_E := encodedLength_of _ _ rfl rfl
theorem EncodedLength.and_H : EncodedLength.Statement .and_H := encodedLength_of _ _ rfl rfl
theorem EncodedLength.and_L : EncodedLength.Statement .and_L := encodedLength_of _ _ rfl rfl
theorem EncodedLength.and_mHL : EncodedLength.Statement .and_mHL := encodedLength_of _ _ rfl rfl
theorem EncodedLength.and_A : EncodedLength.Statement .and_A := encodedLength_of _ _ rfl rfl
theorem EncodedLength.xor_B : EncodedLength.Statement .xor_B := encodedLength_of _ _ rfl rfl
theorem EncodedLength.xor_C : EncodedLength.Statement .xor_C := encodedLength_of _ _ rfl rfl
theorem EncodedLength.xor_D : EncodedLength.Statement .xor_D := encodedLength_of _ _ rfl rfl
theorem EncodedLength.xor_E : EncodedLength.Statement .xor_E := encodedLength_of _ _ rfl rfl
theorem EncodedLength.xor_H : EncodedLength.Statement .xor_H := encodedLength_of _ _ rfl rfl
theorem EncodedLength.xor_L : EncodedLength.Statement .xor_L := encodedLength_of _ _ rfl rfl
theorem EncodedLength.xor_mHL : EncodedLength.Statement .xor_mHL := encodedLength_of _ _ rfl rfl
theorem EncodedLength.xor_A : EncodedLength.Statement .xor_A := encodedLength_of _ _ rfl rfl
theorem EncodedLength.or_B : EncodedLength.Statement .or_B := encodedLength_of _ _ rfl rfl
theorem EncodedLength.or_C : EncodedLength.Statement .or_C := encodedLength_of _ _ rfl rfl
theorem EncodedLength.or_D : EncodedLength.Statement .or_D := encodedLength_of _ _ rfl rfl
theorem EncodedLength.or_E : EncodedLength.Statement .or_E := encodedLength_of _ _ rfl rfl
theorem EncodedLength.or_H : EncodedLength.Statement .or_H := encodedLength_of _ _ rfl rfl
theorem EncodedLength.or_L : EncodedLength.Statement .or_L := encodedLength_of _ _ rfl rfl
theorem EncodedLength.or_mHL : EncodedLength.Statement .or_mHL := encodedLength_of _ _ rfl rfl
theorem EncodedLength.or_A : EncodedLength.Statement .or_A := encodedLength_of _ _ rfl rfl
theorem EncodedLength.cp_B : EncodedLength.Statement .cp_B := encodedLength_of _ _ rfl rfl
theorem EncodedLength.cp_C : EncodedLength.Statement .cp_C := encodedLength_of _ _ rfl rfl
theorem EncodedLength.cp_D : EncodedLength.Statement .cp_D := encodedLength_of _ _ rfl rfl
theorem EncodedLength.cp_E : EncodedLength.Statement .cp_E := encodedLength_of _ _ rfl rfl
theorem EncodedLength.cp_H : EncodedLength.Statement .cp_H := encodedLength_of _ _ rfl rfl
theorem EncodedLength.cp_L : EncodedLength.Statement .cp_L := encodedLength_of _ _ rfl rfl
theorem EncodedLength.cp_mHL : EncodedLength.Statement .cp_mHL := encodedLength_of _ _ rfl rfl
theorem EncodedLength.cp_A : EncodedLength.Statement .cp_A := encodedLength_of _ _ rfl rfl
theorem EncodedLength.ret_NZ : EncodedLength.Statement .ret_NZ := encodedLength_of _ _ rfl rfl
theorem EncodedLength.pop_BC : EncodedLength.Statement .pop_BC := encodedLength_of _ _ rfl rfl
theorem EncodedLength.jp_NZ_nn (nn : Word) : EncodedLength.Statement (.jp_NZ_nn nn) := encodedLength_of _ _ rfl rfl
theorem EncodedLength.jp_nn (nn : Word) : EncodedLength.Statement (.jp_nn nn) := encodedLength_of _ _ rfl rfl
theorem EncodedLength.call_NZ_nn (nn : Word) : EncodedLength.Statement (.call_NZ_nn nn) := encodedLength_of _ _ rfl rfl
theorem EncodedLength.push_BC : EncodedLength.Statement .push_BC := encodedLength_of _ _ rfl rfl
theorem EncodedLength.add_A_n (n : Byte) : EncodedLength.Statement (.add_A_n n) := encodedLength_of _ _ rfl rfl
theorem EncodedLength.rst_00 : EncodedLength.Statement .rst_00 := encodedLength_of _ _ rfl rfl
theorem EncodedLength.ret_Z : EncodedLength.Statement .ret_Z := encodedLength_of _ _ rfl rfl
theorem EncodedLength.ret : EncodedLength.Statement .ret := encodedLength_of _ _ rfl rfl
theorem EncodedLength.jp_Z_nn (nn : Word) : EncodedLength.Statement (.jp_Z_nn nn) := encodedLength_of _ _ rfl rfl
theorem EncodedLength.escape (e : Byte) : EncodedLength.Statement (.escape e) := encodedLength_of _ _ rfl rfl
theorem EncodedLength.call_Z_nn (nn : Word) : EncodedLength.Statement (.call_Z_nn nn) := encodedLength_of _ _ rfl rfl
theorem EncodedLength.call_nn (nn : Word) : EncodedLength.Statement (.call_nn nn) := encodedLength_of _ _ rfl rfl
theorem EncodedLength.adc_A_n (n : Byte) : EncodedLength.Statement (.adc_A_n n) := encodedLength_of _ _ rfl rfl
theorem EncodedLength.rst_08 : EncodedLength.Statement .rst_08 := encodedLength_of _ _ rfl rfl
theorem EncodedLength.ret_NC : EncodedLength.Statement .ret_NC := encodedLength_of _ _ rfl rfl
theorem EncodedLength.pop_DE : EncodedLength.Statement .pop_DE := encodedLength_of _ _ rfl rfl
theorem EncodedLength.jp_NC_nn (nn : Word) : EncodedLength.Statement (.jp_NC_nn nn) := encodedLength_of _ _ rfl rfl
theorem EncodedLength.invalid (op : Byte) : EncodedLength.Statement (.invalid op) := by
  intro hw op' rest' h'
  obtain ⟨rfl, rfl⟩ := List.cons.inj h'
  have hm : op ∈ Config.invalidPrimary ∨ op ∈ Config.unimplPrimary := by
    simpa [WellFormed] using hw
  simp [primarySlot, hm, Slot.length, encode]
theorem EncodedLength.call_NC_nn (nn : Word) : EncodedLength.Statement (.call_NC_nn nn) := encodedLength_of _ _ rfl rfl
theorem EncodedLength.push_DE : EncodedLength.Statement .push_DE := encodedLength_of _ _ rfl rfl
theorem EncodedLength.sub_n (n : Byte) : EncodedLength.Statement (.sub_n n) := encodedLength_of _ _ rfl rfl
theorem EncodedLength.rst_10 : EncodedLength.Statement .rst_10 := encodedLength_of _ _ rfl rfl
theorem EncodedLength.ret_C : EncodedLength.Statement .ret_C := encodedLength_of _ _ rfl rfl
theorem EncodedLength.reti : EncodedLength.Statement .reti := encodedLength_of _ _ rfl rfl
theorem EncodedLength.jp_C_nn (nn : Word) : EncodedLength.Statement (.jp_C_nn nn) := encodedLength_of _ _ rfl rfl
theorem EncodedLength.call_C_nn (nn : Word) : EncodedLength.Statement (.call_C_nn nn) := encodedLength_of _ _ rfl rfl
theorem EncodedLength.sbc_A_n (n : Byte) : EncodedLength.Statement (.sbc_A_n n) := encodedLength_of _ _ rfl rfl
theorem EncodedLength.rst_18 : EncodedLength.Statement .rst_18 := encodedLength_of _ _ rfl rfl
theorem EncodedLength.ldh_mn_A (n : Byte) : EncodedLength.Statement (.ldh_mn_A n) := encodedLength_of _ _ rfl rfl
theorem EncodedLength.pop_HL : EncodedLength.Statement .pop_HL := encodedLength_of _ _ rfl rfl
theorem EncodedLength.ld_mC_A : EncodedLength.Statement .ld_mC_A := encodedLength_of _ _ rfl rfl
theorem EncodedLength.push_HL : EncodedLength.Statement .push_HL := encodedLength_of _ _ rfl rfl
theorem EncodedLength.and_n (n : Byte) : EncodedLength.Statement (.and_n n) := encodedLength_of _ _ rfl rfl
theorem EncodedLength.rst_20 : EncodedLength.Statement .rst_20 := encodedLength_of _ _ rfl rfl
theorem EncodedLength.add_SP_d (d : Byte) : EncodedLength.Statement (.add_SP_d d) := encodedLength_of _ _ rfl rfl
theorem EncodedLength.jp_mHL : EncodedLength.Statement .jp_mHL := encodedLength_of _ _ rfl rfl
theorem EncodedLength.ld_mnn_A (nn : Word) : EncodedLength.Statement (.ld_mnn_A nn) := encodedLength_of _ _ rfl rfl
theorem EncodedLength.xor_n (n : Byte) : EncodedLength.Statement (.xor_n n) := encodedLength_of _ _ rfl rfl
theorem EncodedLength.rst_28 : EncodedLength.Statement .rst_28 := encodedLength_of _ _ rfl rfl
theorem EncodedLength.ldh_A_mn (n : Byte) : EncodedLength.Statement (.ldh_A_mn n) := encodedLength_of _ _ rfl rfl
theorem EncodedLength.pop_AF : EncodedLength.Statement .pop_AF := encodedLength_of _ _ rfl rfl
theorem EncodedLength.ld_A_mC : EncodedLength.Statement .ld_A_mC := encodedLength_of _ _ rfl rfl
theorem EncodedLength.di : EncodedLength.Statement .di := encodedLength_of _ _ rfl rfl
theorem EncodedLength.push_AF : EncodedLength.Statement .push_AF := encodedLength_of _ _ rfl rfl
theorem EncodedLength.or_n (n : Byte) : EncodedLength.Statement (.or_n n) := encodedLength_of _ _ rfl rfl
theorem EncodedLength.rst_30 : EncodedLength.Statement .rst_30 := encodedLength_of _ _ rfl rfl
theorem EncodedLength.ld_HL_SPd (d : Byte) : EncodedLength.Statement (.ld_HL_SPd d) := encodedLength_of _ _ rfl rfl
theorem EncodedLength.ld_SP_HL : EncodedLength.Statement .ld_SP_HL := encodedLength_of _ _ rfl rfl
theorem EncodedLength.ld_A_mnn (nn : Word) : EncodedLength.Statement (.ld_A_mnn nn) := encodedLength_of _ _ rfl rfl
theorem EncodedLength.ei : EncodedLength.Statement .ei := encodedLength_of _ _ rfl rfl
theorem EncodedLength.cp_n (n : Byte) : EncodedLength.Statement (.cp_n n) := encodedLength_of _ _ rfl rfl
theorem EncodedLength.rst_38 : EncodedLength.Statement .rst_38 := encodedLength_of _ _ rfl rfl
theorem EncodedLength.rlc_B : EncodedLength.Statement .rlc_B := encodedLength_of _ _ rfl rfl
theorem EncodedLength.rlc_C : EncodedLength.Statement .rlc_C := encodedLength_of _ _ rfl rfl
theorem EncodedLength.rlc_D : EncodedLength.Statement .rlc_D := encodedLength_of _ _ rfl rfl
theorem EncodedLength.rlc_E : EncodedLength.Statement .rlc_E := encodedLength_of _ _ rfl rfl
theorem EncodedLength.rlc_H : EncodedLength.Statement .rlc_H := encodedLength_of _ _ rfl rfl
theorem EncodedLength.rlc_L : EncodedLength.Statement .rlc_L := encodedLength_of _ _ rfl rfl
theorem EncodedLength.rlc_mHL : EncodedLength.Statement .rlc_mHL := encodedLength_of _ _ rfl rfl
theorem EncodedLength.rlc_A : EncodedLength.Statement .rlc_A := encodedLength_of _ _ rfl rfl
theorem EncodedLength.rrc_B : EncodedLength.Statement .rrc_B := encodedLength_of _ _ rfl rfl
theorem EncodedLength.rrc_C : EncodedLength.Statement .rrc_C := encodedLength_of _ _ rfl rfl
theorem EncodedLength.rrc_D : EncodedLength.Statement .rrc_D := encodedLength_of _ _ rfl rfl
theorem EncodedLength.rrc_E : EncodedLength.Statement .rrc_E := encodedLength_of _ _ rfl rfl
theorem EncodedLength.rrc_H : EncodedLength.Statement .rrc_H := encodedLength_of _ _ rfl rfl
theorem EncodedLength.rrc_L : EncodedLength.Statement .rrc_L := encodedLength_of _ _ rfl rfl
theorem EncodedLength.rrc_mHL : EncodedLength.Statement .rrc_mHL := encodedLength_of _ _ rfl rfl
theorem EncodedLength.rrc_A : EncodedLength.Statement .rrc_A := encodedLength_of _ _ rfl rfl
theorem EncodedLength.rl_B : EncodedLength.Statement .rl_B := encodedLength_of _ _ rfl rfl
theorem EncodedLength.rl_C : EncodedLength.Statement .rl_C := encodedLength_of _ _ rfl rfl
theorem EncodedLength.rl_D : EncodedLength.Statement .rl_D := encodedLength_of _ _ rfl rfl
theorem EncodedLength.rl_E : EncodedLength.Statement .rl_E := encodedLength_of _ _ rfl rfl
theorem EncodedLength.rl_H : EncodedLength.Statement .rl_H := encodedLength_of _ _ rfl rfl
theorem EncodedLength.rl_L : EncodedLength.Statement .rl_L := encodedLength_of _ _ rfl rfl
theorem EncodedLength.rl_mHL : EncodedLength.Statement .rl_mHL := encodedLength_of _ _ rfl rfl
theorem EncodedLength.rl_A : EncodedLength.Statement .rl_A := encodedLength_of _ _ rfl rfl
theorem EncodedLength.rr_B : EncodedLength.Statement .rr_B := encodedLength_of _ _ rfl rfl
theorem EncodedLength.rr_C : EncodedLength.Statement .rr_C := encodedLength_of _ _ rfl rfl
theorem EncodedLength.rr_D : EncodedLength.Statement .rr_D := encodedLength_of _ _ rfl rfl
theorem EncodedLength.rr_E : EncodedLength.Statement .rr_E := encodedLength_of _ _ rfl rfl
theorem EncodedLength.rr_H : EncodedLength.Statement .rr_H := encodedLength_of _ _ rfl rfl
theorem EncodedLength.rr_L : EncodedLength.Statement .rr_L := encodedLength_of _ _ rfl rfl
theorem EncodedLength.rr_mHL : EncodedLength.Statement .rr_mHL := encodedLength_of _ _ rfl rfl
theorem EncodedLength.rr_A : EncodedLength.Statement .rr_A := encodedLength_of _ _ rfl rfl
theorem EncodedLength.sla_B : EncodedLength.Statement .sla_B := encodedLength_of _ _ rfl rfl
theorem EncodedLength.sla_C : EncodedLength.Statement .sla_C := encodedLength_of _ _ rfl rfl
theorem EncodedLength.sla_D : EncodedLength.Statement .sla_D := encodedLength_of _ _ rfl rfl
theorem EncodedLength.sla_E : EncodedLength.Statement .sla_E := encodedLength_of _ _ rfl rfl
theorem EncodedLength.sla_H : EncodedLength.Statement .sla_H := encodedLength_of _ _ rfl rfl
theorem EncodedLength.sla_L : EncodedLength.Statement .sla_L := encodedLength_of _ _ rfl rfl
theorem EncodedLength.sla_mHL : EncodedLength.Statement .sla_mHL := encodedLength_of _ _ rfl rfl
theorem EncodedLength.sla_A : EncodedLength.Statement .sla_A := encodedLength_of _ _ rfl rfl
theorem EncodedLength.sra_B : EncodedLength.Statement .sra_B := encodedLength_of _ _ rfl rfl
theorem EncodedLength.sra_C : EncodedLength.Statement .sra_C := encodedLength_of _ _ rfl rfl
theorem EncodedLength.sra_D : EncodedLength.Statement .sra_D := encodedLength_of _ _ rfl rfl
theorem EncodedLength.sra_E : EncodedLength.Statement .sra_E := encodedLength_of _ _ rfl rfl
theorem EncodedLength.sra_H : EncodedLength.Statement .sra_H := encodedLength_of _ _ rfl rfl
theorem EncodedLength.sra_L : EncodedLength.Statement .sra_L := encodedLength_of _ _ rfl rfl
theorem EncodedLength.sra_mHL : EncodedLength.Statement .sra_mHL := encodedLength_of _ _ rfl rfl
theorem EncodedLength.sra_A : EncodedLength.Statement .sra_A := encodedLength_of _ _ rfl rfl
theorem EncodedLength.swap_B : EncodedLength.Statement .swap_B := encodedLength_of _ _ rfl rfl
theorem EncodedLength.swap_C : EncodedLength.Statement .swap_C := encodedLength_of _ _ rfl rfl
theorem EncodedLength.swap_D : EncodedLength.Statement .swap_D := encodedLength_of _ _ rfl rfl
theorem EncodedLength.swap_E : EncodedLength.Statement .swap_E := encodedLength_of _ _ rfl rfl
theorem EncodedLength.swap_H : EncodedLength.Statement .swap_H := encodedLength_of _ _ rfl rfl
theorem EncodedLength.swap_L : EncodedLength.Statement .swap_L := encodedLength_of _ _ rfl rfl
theorem EncodedLength.swap_mHL : EncodedLength.Statement .swap_mHL := encodedLength_of _ _ rfl rfl
theorem EncodedLength.swap_A : EncodedLength.Statement .swap_A := encodedLength_of _ _ rfl rfl
theorem EncodedLength.srl_B : EncodedLength.Statement .srl_B := encodedLength_of _ _ rfl rfl
theorem EncodedLength.srl_C : EncodedLength.Statement .srl_C := encodedLength_of _ _ rfl rfl
theorem EncodedLength.srl_D : EncodedLength.Statement .srl_D := encodedLength_of _ _ rfl rfl
theorem EncodedLength.srl_E : EncodedLength.Statement .srl_E := encodedLength_of _ _ rfl rfl
theorem EncodedLength.srl_H : EncodedLength.Statement .srl_H := encodedLength_of _ _ rfl rfl
theorem EncodedLength.srl_L : EncodedLength.Statement .srl_L := encodedLength_of _ _ rfl rfl
theorem EncodedLength.srl_mHL : EncodedLength.Statement .srl_mHL := encodedLength_of _ _ rfl rfl
theorem EncodedLength.srl_A : EncodedLength.Statement .srl_A := encodedLength_of _ _ rfl rfl
theorem EncodedLength.bit_0_B : EncodedLength.Statement .bit_0_B := encodedLength_of _ _ rfl rfl
theorem EncodedLength.bit_0_C : EncodedLength.Statement .bit_0_C := encodedLength_of _ _ rfl rfl
theorem EncodedLength.bit_0_D : EncodedLength.Statement .bit_0_D := encodedLength_of _ _ rfl rfl
theorem EncodedLength.bit_0_E : EncodedLength.Statement .bit_0_E := encodedLength_of _ _ rfl rfl
theorem EncodedLength.bit_0_H : EncodedLength.Statement .bit_0_H := encodedLength_of _ _ rfl rfl
theorem EncodedLength.bit_0_L : EncodedLength.Statement .bit_0_L := encodedLength_of _ _ rfl rfl
theorem EncodedLength.bit_0_mHL : EncodedLength.Statement .bit_0_mHL := encodedLength_of _ _ rfl rfl
theorem EncodedLength.bit_0_A : EncodedLength.Statement .bit_0_A := encodedLength_of _ _ rfl rfl
theorem EncodedLength.bit_1_B : EncodedLength.Statement .bit_1_B := encodedLength_of _ _ rfl rfl
theorem EncodedLength.bit_1_C : EncodedLength.Statement .bit_1_C := encodedLength_of _ _ rfl rfl
theorem EncodedLength.bit_1_D : EncodedLength.Statement .bit_1_D := encodedLength_of _ _ rfl rfl
theorem EncodedLength.bit_1_E : EncodedLength.Statement .bit_1_E := encodedLength_of _ _ rfl rfl
theorem EncodedLength.bit_1_H : EncodedLength.Statement .bit_1_H := encodedLength_of _ _ rfl rfl
theorem EncodedLength.bit_1_L : EncodedLength.Statement .bit_1_L := encodedLength_of _ _ rfl rfl
theorem EncodedLength.bit_1_mHL : EncodedLength.Statement .bit_1_mHL := encodedLength_of _ _ rfl rfl
theorem EncodedLength.bit_1_A : EncodedLength.Statement .bit_1_A := encodedLength_of _ _ rfl rfl
theorem EncodedLength.bit_2_B : EncodedLength.Statement .bit_2_B := encodedLength_of _ _ rfl rfl
theorem EncodedLength.bit_2_C : EncodedLength.Statement .bit_2_C := encodedLength_of _ _ rfl rfl
theorem EncodedLength.bit_2_D : EncodedLength.Statement .bit_2_D := encodedLength_of _ _ rfl rfl
theorem EncodedLength.bit_2_E : EncodedLength.Statement .bit_2_E := encodedLength_of _ _ rfl rfl
theorem EncodedLength.bit_2_H : EncodedLength.Statement .bit_2_H := encodedLength_of _ _ rfl rfl
theorem EncodedLength.bit_2_L : EncodedLength.Statement .bit_2_L := encodedLength_of _ _ rfl rfl
theorem EncodedLength.bit_2_mHL : EncodedLength.Statement .bit_2_mHL := encodedLength_of _ _ rfl rfl
theorem EncodedLength.bit_2_A : EncodedLength.Statement .bit_2_A := encodedLength_of _ _ rfl rfl
theorem EncodedLength.bit_3_B : EncodedLength.Statement .bit_3_B := encodedLength_of _ _ rfl rfl
theorem EncodedLength.bit_3_C : EncodedLength.Statement .bit_3_C := encodedLength_of _ _ rfl rfl
theorem EncodedLength.bit_3_D : EncodedLength.Statement .bit_3_D := encodedLength_of _ _ rfl rfl
theorem EncodedLength.bit_3_E : EncodedLength.Statement .bit_3_E := encodedLength_of _ _ rfl rfl
theorem EncodedLength.bit_3_H : EncodedLength.Statement .bit_3_H := encodedLength_of _ _ rfl rfl
theorem EncodedLength.bit_3_L : EncodedLength.Statement .bit_3_L := encodedLength_of _ _ rfl rfl
theorem EncodedLength.bit_3_mHL : EncodedLength.Statement .bit_3_mHL := encodedLength_of _ _ rfl rfl
theorem EncodedLength.bit_3_A : EncodedLength.Statement .bit_3_A := encodedLength_of _ _ rfl rfl
theorem EncodedLength.bit_4_B : EncodedLength.Statement .bit_4_B := encodedLength_of _ _ rfl rfl
theorem EncodedLength.bit_4_C : EncodedLength.Statement .bit_4_C := encodedLength_of _ _ rfl rfl
theorem EncodedLength.bit_4_D : EncodedLength.Statement .bit_4_D := encodedLength_of _ _ rfl rfl
theorem EncodedLength.bit_4_E : EncodedLength.Statement .bit_4_E := encodedLength_of _ _ rfl rfl
theorem EncodedLength.bit_4_H : EncodedLength.Statement .bit_4_H := encodedLength_of _ _ rfl rfl
theorem EncodedLength.bit_4_L : EncodedLength.Statement .bit_4_L := encodedLength_of _ _ rfl rfl
theorem EncodedLength.bit_4_mHL : EncodedLength.Statement .bit_4_mHL := encodedLength_of _ _ rfl rfl
theorem EncodedLength.bit_4_A : EncodedLength.Statement .bit_4_A := encodedLength_of _ _ rfl rfl
theorem EncodedLength.bit_5_B : EncodedLength.Statement .bit_5_B := encodedLength_of _ _ rfl rfl
theorem EncodedLength.bit_5_C : EncodedLength.Statement .bit_5_C := encodedLength_of _ _ rfl rfl
theorem EncodedLength.bit_5_D : EncodedLength.Statement .bit_5_D := encodedLength_of _ _ rfl rfl
theorem EncodedLength.bit_5_E : EncodedLength.Statement .bit_5_E := encodedLength_of _ _ rfl rfl
theorem EncodedLength.bit_5_H : EncodedLength.Statement .bit_5_H := encodedLength_of _ _ rfl rfl
theorem EncodedLength.bit_5_L : EncodedLength.Statement .bit_5_L := encodedLength_of _ _ rfl rfl
theorem EncodedLength.bit_5_mHL : EncodedLength.Statement .bit_5_mHL := encodedLength_of _ _ rfl rfl
theorem EncodedLength.bit_5_A : EncodedLength.Statement .bit_5_A := encodedLength_of _ _ rfl rfl
theorem EncodedLength.bit_6_B : EncodedLength.Statement .bit_6_B := encodedLength_of _ _ rfl rfl
theorem EncodedLength.bit_6_C : EncodedLength.Statement .bit_6_C := encodedLength_of _ _ rfl rfl
theorem EncodedLength.bit_6_D : EncodedLength.Statement .bit_6_D := encodedLength_of _ _ rfl rfl
theorem EncodedLength.bit_6_E : EncodedLength.Statement .bit_6_E := encodedLength_of _ _ rfl rfl
theorem EncodedLength.bit_6_H : EncodedLength.Statement .bit_6_H := encodedLength_of _ _ rfl rfl
theorem EncodedLength.bit_6_L : EncodedLength.Statement .bit_6_L := encodedLength_of _ _ rfl rfl
theorem EncodedLength.bit_6_mHL : EncodedLength.Statement .bit_6_mHL := encodedLength_of _ _ rfl rfl
theorem EncodedLength.bit_6_A : EncodedLength.Statement .bit_6_A := encodedLength_of _ _ rfl rfl
theorem EncodedLength.bit_7_B : EncodedLength.Statement .bit_7_B := encodedLength_of _ _ rfl rfl
theorem EncodedLength.bit_7_C : EncodedLength.Statement .bit_7_C := encodedLength_of _ _ rfl rfl
theorem EncodedLength.bit_7_D : EncodedLength.Statement .bit_7_D := encodedLength_of _ _ rfl rfl
theorem EncodedLength.bit_7_E : EncodedLength.Statement .bit_7_E := encodedLength_of _ _ rfl rfl
theorem EncodedLength.bit_7_H : EncodedLength.Statement .bit_7_H := encodedLength_of _ _ rfl rfl
theorem EncodedLength.bit_7_L : EncodedLength.Statement .bit_7_L := encodedLength_of _ _ rfl rfl
theorem EncodedLength.bit_7_mHL : EncodedLength.Statement .bit_7_mHL := encodedLength_of _ _ rfl rfl
theorem EncodedLength.bit_7_A : EncodedLength.Statement .bit_7_A := encodedLength_of _ _ rfl rfl
theorem EncodedLength.res_0_B : EncodedLength.Statement .res_0_B := encodedLength_of _ _ rfl rfl
theorem EncodedLength.res_0_C : EncodedLength.Statement .res_0_C := encodedLength_of _ _ rfl rfl
theorem EncodedLength.res_0_D : EncodedLength.Statement .res_0_D := encodedLength_of _ _ rfl rfl
theorem EncodedLength.res_0_E : EncodedLength.Statement .res_0_E := encodedLength_of _ _ rfl rfl
theorem EncodedLength.res_0_H : EncodedLength.Statement .res_0_H := encodedLength_of _ _ rfl rfl
theorem EncodedLength.res_0_L : EncodedLength.Statement .res_0_L := encodedLength_of _ _ rfl rfl
theorem EncodedLength.res_0_mHL : EncodedLength.Statement .res_0_mHL := encodedLength_of _ _ rfl rfl
theorem EncodedLength.res_0_A : EncodedLength.Statement .res_0_A := encodedLength_of _ _ rfl rfl
theorem EncodedLength.res_1_B : EncodedLength.Statement .res_1_B := encodedLength_of _ _ rfl rfl
theorem EncodedLength.res_1_C : EncodedLength.Statement .res_1_C := encodedLength_of _ _ rfl rfl
theorem EncodedLength.res_1_D : EncodedLength.Statement .res_1_D := encodedLength_of _ _ rfl rfl
theorem EncodedLength.res_1_E : EncodedLength.Statement .res_1_E := encodedLength_of _ _ rfl rfl
theorem EncodedLength.res_1_H : EncodedLength.Statement .res_1_H := encodedLength_of _ _ rfl rfl
theorem EncodedLength.res_1_L : EncodedLength.Statement .res_1_L := encodedLength_of _ _ rfl rfl
theorem EncodedLength.res_1_mHL : EncodedLength.Statement .res_1_mHL := encodedLength_of _ _ rfl rfl
theorem EncodedLength.res_1_A : EncodedLength.Statement .res_1_A := encodedLength_of _ _ rfl rfl
theorem EncodedLength.res_2_B : EncodedLength.Statement .res_2_B := encodedLength_of _ _ rfl rfl
theorem EncodedLength.res_2_C : EncodedLength.Statement .res_2_C := encodedLength_of _ _ rfl rfl
theorem EncodedLength.res_2_D : EncodedLength.Statement .res_2_D := encodedLength_of _ _ rfl rfl
theorem EncodedLength.res_2_E : EncodedLength.Statement .res_2_E := encodedLength_of _ _ rfl rfl
theorem EncodedLength.res_2_H : EncodedLength.Statement .res_2_H := encodedLength_of _ _ rfl rfl
theorem EncodedLength.res_2_L : EncodedLength.Statement .res_2_L := encodedLength_of _ _ rfl rfl
theorem EncodedLength.res_2_mHL : EncodedLength.Statement .res_2_mHL := encodedLength_of _ _ rfl rfl
theorem EncodedLength.res_2_A : EncodedLength.Statement .res_2_A := encodedLength_of _ _ rfl rfl
theorem EncodedLength.res_3_B : EncodedLength.Statement .res_3_B := encodedLength_of _ _ rfl rfl
theorem EncodedLength.res_3_C : EncodedLength.Statement .res_3_C := encodedLength_of _ _ rfl rfl
theorem EncodedLength.res_3_D : EncodedLength.Statement .res_3_D := encodedLength_of _ _ rfl rfl
theorem EncodedLength.res_3_E : EncodedLength.Statement .res_3_E := encodedLength_of _ _ rfl rfl
theorem EncodedLength.res_3_H : EncodedLength.Statement .res_3_H := encodedLength_of _ _ rfl rfl
theorem EncodedLength.res_3_L : EncodedLength.Statement .res_3_L := encodedLength_of _ _ rfl rfl
theorem EncodedLength.res_3_mHL : EncodedLength.Statement .res_3_mHL := encodedLength_of _ _ rfl rfl
theorem EncodedLength.res_3_A : EncodedLength.Statement .res_3_A := encodedLength_of _ _ rfl rfl
theorem EncodedLength.res_4_B : EncodedLength.Statement .res_4_B := encodedLength_of _ _ rfl rfl
theorem EncodedLength.res_4_C : EncodedLength.Statement .res_4_C := encodedLength_of _ _ rfl rfl
theorem EncodedLength.res_4_D : EncodedLength.Statement .res_4_D := encodedLength_of _ _ rfl rfl
theorem EncodedLength.res_4_E : EncodedLength.Statement .res_4_E := encodedLength_of _ _ rfl rfl
theorem EncodedLength.res_4_H : EncodedLength.Statement .res_4_H := encodedLength_of _ _ rfl rfl
theorem EncodedLength.res_4_L : EncodedLength.Statement .res_4_L := encodedLength_of _ _ rfl rfl
theorem EncodedLength.res_4_mHL : EncodedLength.Statement .res_4_mHL := encodedLength_of _ _ rfl rfl
theorem EncodedLength.res_4_A : EncodedLength.Statement .res_4_A := encodedLength_of _ _ rfl rfl
theorem EncodedLength.res_5_B : EncodedLength.Statement .res_5_B := encodedLength_of _ _ rfl rfl
theorem EncodedLength.res_5_C : EncodedLength.Statement .res_5_C := encodedLength_of _ _ rfl rfl
theorem EncodedLength.res_5_D : EncodedLength.Statement .res_5_D := encodedLength_of _ _ rfl rfl
theorem EncodedLength.res_5_E : EncodedLength.Statement .res_5_E := encodedLength_of _ _ rfl rfl
theorem EncodedLength.res_5_H : EncodedLength.Statement .res_5_H := encodedLength_of _ _ rfl rfl
theorem EncodedLength.res_5_L : EncodedLength.Statement .res_5_L := encodedLength_of _ _ rfl rfl
theorem EncodedLength.res_5_mHL : EncodedLength.Statement .res_5_mHL := encodedLength_of _ _ rfl rfl
theorem EncodedLength.res_5_A : EncodedLength.Statement .res_5_A := encodedLength_of _ _ rfl rfl
theorem EncodedLength.res_6_B : EncodedLength.Statement .res_6_B := encodedLength_of _ _ rfl rfl
theorem EncodedLength.res_6_C : EncodedLength.Statement .res_6_C := encodedLength_of _ _ rfl rfl
theorem EncodedLength.res_6_D : EncodedLength.Statement .res_6_D := encodedLength_of _ _ rfl rfl
theorem EncodedLength.res_6_E : EncodedLength.Statement .res_6_E := encodedLength_of _ _ rfl rfl
theorem EncodedLength.res_6_H : EncodedLength.Statement .res_6_H := encodedLength_of _ _ rfl rfl
theorem EncodedLength.res_6_L : EncodedLength.Statement .res_6_L := encodedLength_of _ _ rfl rfl
theorem EncodedLength.res_6_mHL : EncodedLength.Statement .res_6_mHL := encodedLength_of _ _ rfl rfl
theorem EncodedLength.res_6_A : EncodedLength.Statement .res_6_A := encodedLength_of _ _ rfl rfl
theorem EncodedLength.res_7_B : EncodedLength.Statement .res_7_B := encodedLength_of _ _ rfl rfl
theorem EncodedLength.res_7_C : EncodedLength.Statement .res_7_C := encodedLength_of _ _ rfl rfl
theorem EncodedLength.res_7_D : EncodedLength.Statement .res_7_D := encodedLength_of _ _ rfl rfl
theorem EncodedLength.res_7_E : EncodedLength.Statement .res_7_E := encodedLength_of _ _ rfl rfl
theorem EncodedLength.res_7_H : EncodedLength.Statement .res_7_H := encodedLength_of _ _ rfl rfl
theorem EncodedLength.res_7_L : EncodedLength.Statement .res_7_L := encodedLength_of _ _ rfl rfl
theorem EncodedLength.res_7_mHL : EncodedLength.Statement .res_7_mHL := encodedLength_of _ _ rfl rfl
theorem EncodedLength.res_7_A : EncodedLength.Statement .res_7_A := encodedLength_of _ _ rfl rfl
theorem EncodedLength.set_0_B : EncodedLength.Statement .set_0_B := encodedLength_of _ _ rfl rfl
theorem EncodedLength.set_0_C : EncodedLength.Statement .set_0_C := encodedLength_of _ _ rfl rfl
theorem EncodedLength.set_0_D : EncodedLength.Statement .set_0_D := encodedLength_of _ _ rfl rfl
theorem EncodedLength.set_0_E : EncodedLength.Statement .set_0_E := encodedLength_of _ _ rfl rfl
theorem EncodedLength.set_0_H : EncodedLength.Statement .set_0_H := encodedLength_of _ _ rfl rfl
theorem EncodedLength.set_0_L : EncodedLength.Statement .set_0_L := encodedLength_of _ _ rfl rfl
theorem EncodedLength.set_0_mHL : EncodedLength.Statement .set_0_mHL := encodedLength_of _ _ rfl rfl
theorem EncodedLength.set_0_A : EncodedLength.Statement .set_0_A := encodedLength_of _ _ rfl rfl
theorem EncodedLength.set_1_B : EncodedLength.Statement .set_1_B := encodedLength_of _ _ rfl rfl
theorem EncodedLength.set_1_C : EncodedLength.Statement .set_1_C := encodedLength_of _ _ rfl rfl
theorem EncodedLength.set_1_D : EncodedLength.Statement .set_1_D := encodedLength_of _ _ rfl rfl
theorem EncodedLength.set_1_E : EncodedLength.Statement .set_1_E := encodedLength_of _ _ rfl rfl
theorem EncodedLength.set_1_H : EncodedLength.Statement .set_1_H := encodedLength_of _ _ rfl rfl
theorem EncodedLength.set_1_L : EncodedLength.Statement .set_1_L := encodedLength_of _ _ rfl rfl
theorem EncodedLength.set_1_mHL : EncodedLength.Statement .set_1_mHL := encodedLength_of _ _ rfl rfl
theorem EncodedLength.set_1_A : EncodedLength.Statement .set_1_A := encodedLength_of _ _ rfl rfl
theorem EncodedLength.set_2_B : EncodedLength.Statement .set_2_B := encodedLength_of _ _ rfl rfl
theorem EncodedLength.set_2_C : EncodedLength.Statement .set_2_C := encodedLength_of _ _ rfl rfl
theorem EncodedLength.set_2_D : EncodedLength.Statement .set_2_D := encodedLength_of _ _ rfl rfl
theorem EncodedLength.set_2_E : EncodedLength.Statement .set_2_E := encodedLength_of _ _ rfl rfl
theorem EncodedLength.set_2_H : EncodedLength.Statement .set_2_H := encodedLength_of _ _ rfl rfl
theorem EncodedLength.set_2_L : EncodedLength.Statement .set_2_L := encodedLength_of _ _ rfl rfl
theorem EncodedLength.set_2_mHL : EncodedLength.Statement .set_2_mHL := encodedLength_of _ _ rfl rfl
theorem EncodedLength.set_2_A : EncodedLength.Statement .set_2_A := encodedLength_of _ _ rfl rfl
theorem EncodedLength.set_3_B : EncodedLength.Statement .set_3_B := encodedLength_of _ _ rfl rfl
theorem EncodedLength.set_3_C : EncodedLength.Statement .set_3_C := encodedLength_of _ _ rfl rfl
theorem EncodedLength.set_3_D : EncodedLength.Statement .set_3_D := encodedLength_of _ _ rfl rfl
theorem EncodedLength.set_3_E : EncodedLength.Statement .set_3_E := encodedLength_of _ _ rfl rfl
theorem EncodedLength.set_3_H : EncodedLength.Statement .set_3_H := encodedLength_of _ _ rfl rfl
theorem EncodedLength.set_3_L : EncodedLength.Statement .set_3_L := encodedLength_of _ _ rfl rfl
theorem EncodedLength.set_3_mHL : EncodedLength.Statement .set_3_mHL := encodedLength_of _ _ rfl rfl
theorem EncodedLength.set_3_A : EncodedLength.Statement .set_3_A := encodedLength_of _ _ rfl rfl
theorem EncodedLength.set_4_B : EncodedLength.Statement .set_4_B := encodedLength_of _ _ rfl rfl
theorem EncodedLength.set_4_C : EncodedLength.Statement .set_4_C := encodedLength_of _ _ rfl rfl
theorem EncodedLength.set_4_D : EncodedLength.Statement .set_4_D := encodedLength_of _ _ rfl rfl
theorem EncodedLength.set_4_E : EncodedLength.Statement .set_4_E := encodedLength_of _ _ rfl rfl
theorem EncodedLength.set_4_H : EncodedLength.Statement .set_4_H := encodedLength_of _ _ rfl rfl
theorem EncodedLength.set_4_L : EncodedLength.Statement .set_4_L := encodedLength_of _ _ rfl rfl
theorem EncodedLength.set_4_mHL : EncodedLength.Statement .set_4_mHL := encodedLength_of _ _ rfl rfl
theorem EncodedLength.set_4_A : EncodedLength.Statement .set_4_A := encodedLength_of _ _ rfl rfl
theorem EncodedLength.set_5_B : EncodedLength.Statement .set_5_B := encodedLength_of _ _ rfl rfl
theorem EncodedLength.set_5_C : EncodedLength.Statement .set_5_C := encodedLength_of _ _ rfl rfl
theorem EncodedLength.set_5_D : EncodedLength.Statement .set_5_D := encodedLength_of _ _ rfl rfl
theorem EncodedLength.set_5_E : EncodedLength.Statement .set_5_E := encodedLength_of _ _ rfl rfl
theorem EncodedLength.set_5_H : EncodedLength.Statement .set_5_H := encodedLength_of _ _ rfl rfl
theorem EncodedLength.set_5_L : EncodedLength.Statement .set_5_L := encodedLength_of _ _ rfl rfl
theorem EncodedLength.set_5_mHL : EncodedLength.Statement .set_5_mHL := encodedLength_of _ _ rfl rfl
theorem EncodedLength.set_5_A : EncodedLength.Statement .set_5_A := encodedLength_of _ _ rfl rfl
theorem EncodedLength.set_6_B : EncodedLength.Statement .set_6_B := encodedLength_of _ _ rfl rfl
theorem EncodedLength.set_6_C : EncodedLength.Statement .set_6_C := encodedLength_of _ _ rfl rfl
theorem EncodedLength.set_6_D : EncodedLength.Statement .set_6_D := encodedLength_of _ _ rfl rfl
theorem EncodedLength.set_6_E : EncodedLength.Statement .set_6_E := encodedLength_of _ _ rfl rfl
theorem EncodedLength.set_6_H : EncodedLength.Statement .set_6_H := encodedLength_of _ _ rfl rfl
theorem EncodedLength.set_6_L : EncodedLength.Statement .set_6_L := encodedLength_of _ _ rfl rfl
theorem EncodedLength.set_6_mHL : EncodedLength.Statement .set_6_mHL := encodedLength_of _ _ rfl rfl
theorem EncodedLength.set_6_A : EncodedLength.Statement .set_6_A := encodedLength_of _ _ rfl rfl
theorem EncodedLength.set_7_B : EncodedLength.Statement .set_7_B := encodedLength_of _ _ rfl rfl
theorem EncodedLength.set_7_C : EncodedLength.Statement .set_7_C := encodedLength_of _ _ rfl rfl
theorem EncodedLength.set_7_D : EncodedLength.Statement .set_7_D := encodedLength_of _ _ rfl rfl
theorem EncodedLength.set_7_E : EncodedLength.Statement .set_7_E := encodedLength_of _ _ rfl rfl
theorem EncodedLength.set_7_H : EncodedLength.Statement .set_7_H := encodedLength_of _ _ rfl rfl
theorem EncodedLength.set_7_L : EncodedLength.Statement .set_7_L := encodedLength_of _ _ rfl rfl
theorem EncodedLength.set_7_mHL : EncodedLength.Statement .set_7_mHL := encodedLength_of _ _ rfl rfl
theorem EncodedLength.set_7_A : EncodedLength.Statement .set_7_A := encodedLength_of _ _ rfl rfl

end Sys2Proof.Laws
end

