-- ==== Sys2Proof/Tests/Slice0.lean ====
section
/-! SUPPORT. Tests/Slice0.lean: well-formedness refusals, decode tests with words written from 30_encoding.md,
one-Step tests with the results of 95_test_vectors.md, and a witness for every obligation that has hypotheses. -/

namespace Sys2Proof.Tests

open Sys2Proof.Machine

/-! ### Helpers -/

/-- The start state of the vectors (95_test_vectors.md, conventions): F = 0x00, PC = 0x0200. -/
def start : State := { State.reset with f := 0x00, pc := 0x0200 }

/-- A state with HL. -/
def withHL (v : Word) (s : State) : State := s.setHL v

/-- A state with bytes stored at an address. -/
def holding (a : Word) (bytes : List Byte) (s : State) : State := s.placeBytes a bytes

/-- The state after one Step with the instruction's bytes at PC. -/
def run (bytes : List Byte) (s : State) : Option State :=
  match step (s.placeBytes s.pc bytes) with
  | .next t => some t
  | _ => none

/-- The fault of one Step with the instruction's bytes at PC. -/
def stops (bytes : List Byte) (s : State) : Option Fault :=
  match step (s.placeBytes s.pc bytes) with
  | .fault r => some r
  | _ => none

/-- The data accesses of an operation: the port's record past the fetch of n bytes. -/
def dataAccesses (n : Nat) (t : State) : List PortAccess := t.trace.drop n

/-! ### Well-formedness -/

theorem test_wf_invalid_refused : WellFormed (.invalid 0x00) = false := by decide
theorem test_wf_invalid_accepted : WellFormed (.invalid 0xFD) = true := by decide
theorem test_wf_escape_refused : WellFormed (.escape 0x00) = false := by decide

/-! ### Decoding: words written bit by bit (30_encoding.md R93 to R106) -/

/-- 01 ddd sss, d = B = 000, s = C = 001. -/
theorem test_decode_ld_B_C : decode [0b01000001] = .ok (.ld_B_C, []) := rfl
/-- 00 ddd 110 and the immediate, d = E = 011. -/
theorem test_decode_ld_E_n : decode [0b00011110, 0x7F] = .ok (.ld_E_n 0x7F, []) := rfl
/-- 01 110 sss, s = H = 100. -/
theorem test_decode_ld_mHL_H : decode [0b01110100] = .ok (.ld_mHL_H, []) := rfl
/-- 01 110 110 is HALT. -/
theorem test_decode_halt : decode [0b01110110] = .ok (.halt, []) := rfl
/-- 00 pp0 001, p = DE = 01, the low byte first. -/
theorem test_decode_ld_DE_nn : decode [0b00010001, 0x34, 0x12] = .ok (.ld_DE_nn 0x1234, []) := rfl
/-- 11 pp0 101, p = AF = 11. -/
theorem test_decode_push_AF : decode [0b11110101] = .ok (.push_AF, []) := rfl
/-- 10 ooo sss, o = sbc = 011, s = H = 100. -/
theorem test_decode_sbc_A_H : decode [0b10011100] = .ok (.sbc_A_H, []) := rfl
/-- 11 ooo 110, o = cp = 111. -/
theorem test_decode_cp_n : decode [0b11111110, 0x2F] = .ok (.cp_n 0x2F, []) := rfl
/-- 00 ddd 101, d = (HL) = 110. -/
theorem test_decode_dec_mHL : decode [0b00110101] = .ok (.dec_mHL, []) := rfl
/-- 00 pp1 001, p = SP = 11. -/
theorem test_decode_add_HL_SP : decode [0b00111001] = .ok (.add_HL_SP, []) := rfl
/-- 11 0cc 100 and the address, cc = C = 11. -/
theorem test_decode_call_C_nn : decode [0b11011100, 0x00, 0x30] = .ok (.call_C_nn 0x3000, []) := rfl
/-- 00 1cc 000 and the displacement, cc = NZ = 00; what follows is left. -/
theorem test_decode_jr_NZ_d : decode [0b00100000, 0xFC, 0x76] = .ok (.jr_NZ_d 0xFC, [0x76]) := rfl
/-- 11 ttt 111, t = 5. -/
theorem test_decode_rst_28 : decode [0b11101111] = .ok (.rst_28, []) := rfl
/-- The escape, then 01 bbb rrr, b = 7, r = (HL) = 110. -/
theorem test_decode_bit_7_mHL : decode [0b11001011, 0b01111110] = .ok (.bit_7_mHL, []) := rfl
/-- The escape, then 00 110 rrr (SWAP), r = A = 111. -/
theorem test_decode_swap_A : decode [0b11001011, 0b00110111] = .ok (.swap_A, []) := rfl
/-- A byte without a handler. -/
theorem test_decode_invalid : decode [0xD3] = .ok (.invalid 0xD3, []) := rfl
/-- Too few bytes. -/
theorem test_decode_truncated : decode [0xFA, 0x00] = .error .truncated := rfl
/-- An extended row of opcode_table.json is numbered byte 0, byte 1 (log 5). -/
theorem test_table_word_extended : decodeTableWord 16 0xCB7C = some .bit_7_H := rfl
theorem test_table_word_primary : decodeTableWord 8 0x3E = some (.ld_A_n 0x00) := rfl

/-! ### One Step (95_test_vectors.md, parts A and B) -/

/-- B1.3. -/
theorem test_ld_E_mHL :
    (run [0x5E] (holding 0xC123 [0x99] (withHL 0xC123 start))).map (fun t => (t.e, dataAccesses 1 t, t.cycles)) =
      some (0x99, [.read 0xC123 0x99], 8) := by decide
/-- B1.5: the old H is stored. -/
theorem test_ld_mHL_H :
    (run [0x74] (withHL 0xC0C1 start)).map (fun t => (t.peek 0xC0C1, t.cycles)) = some (0xC0, 8) := by decide
/-- B1.6. -/
theorem test_ld_mHL_n :
    (run [0x36, 0xAB] (withHL 0xFFFF start)).map (fun t => (t.peek 0xFFFF, t.cycles)) = some (0xAB, 12) := by decide
/-- B1.14: the top of the I/O page. -/
theorem test_ld_A_mC :
    (run [0xF2] (holding 0xFFFF [0x1F] { start with c := 0xFF })).map (fun t => (t.a, t.cycles)) =
      some (0x1F, 8) := by decide
/-- B1.15: HL wraps. -/
theorem test_ld_mHLI_A :
    (run [0x22] (withHL 0xFFFF start)).map (fun t => (t.peek 0xFFFF, t.hl)) = some (0x01, 0x0000) := by decide
/-- B1.16: HL wraps down. -/
theorem test_ld_A_mHLD :
    (run [0x3A] (holding 0x0000 [0x3E] (withHL 0x0000 start))).map (fun t => (t.a, t.hl)) =
      some (0x3E, 0xFFFF) := by decide
/-- B2.3: the address wraps. -/
theorem test_ld_mnn_SP :
    (run [0x08, 0xFF, 0xFF] { start with sp := 0x1234 }).map (fun t => (dataAccesses 3 t, t.cycles)) =
      some ([.write 0xFFFF 0x34, .write 0x0000 0x12], 20) := by decide
/-- B2.7: a negative displacement; the carries are unsigned. -/
theorem test_ld_HL_SPd :
    (run [0xF8, 0x80] { start with sp := 0xFFF0 }).map (fun t => (t.hl, t.f, t.sp)) =
      some (0xFF70, 0x10, 0xFFF0) := by decide
/-- B2.10: SP wraps. -/
theorem test_push_AF :
    (run [0xF5] { start with a := 0x12, f := 0xF0, sp := 0x0001 }).map (fun t => (dataAccesses 1 t, t.sp)) =
      some ([.write 0x0000 0x12, .write 0xFFFF 0xF0], 0xFFFF) := by decide
/-- B2.12: the low nibble is masked. -/
theorem test_pop_AF :
    (run [0xF1] (holding 0xFFFF [0xFF, 0xAA] { start with sp := 0xFFFF })).map (fun t => (t.a, t.f, t.sp)) =
      some (0xAA, 0xF0, 0x0001) := by decide
/-- B3.2: Carry is kept. -/
theorem test_inc_B :
    (run [0x04] { start with b := 0xFF, f := 0x10 }).map (fun t => (t.b, t.f)) = some (0x00, 0xB0) := by decide
/-- B3.8: one read, one write. -/
theorem test_dec_mHL :
    (run [0x35] (withHL 0xC000 start)).map (fun t => (dataAccesses 1 t, t.f, t.cycles)) =
      some ([.read 0xC000 0x00, .write 0xC000 0xFF], 0x60, 12) := by decide
/-- B4.8: Half-carry from the incoming Carry alone. -/
theorem test_adc_A_B :
    (run [0x88] { start with a := 0x0F, f := 0x10 }).map (fun t => (t.a, t.f)) = some (0x10, 0x20) := by decide
/-- B4.14. -/
theorem test_sbc_A_B :
    (run [0x98] { start with a := 0x00, b := 0xFF, f := 0x10 }).map (fun t => (t.a, t.f)) =
      some (0x00, 0xF0) := by decide
/-- B4.17. -/
theorem test_and_L :
    (run [0xA5] { start with a := 0x5A, l := 0x3F }).map (fun t => (t.a, t.f)) = some (0x1A, 0x20) := by decide
/-- B4.25: A is kept. -/
theorem test_cp_n :
    (run [0xFE, 0x40] { start with a := 0x3C }).map (fun t => (t.a, t.f, t.cycles)) = some (0x3C, 0x50, 8) := by decide
/-- B5.5: Zero stays 0. -/
theorem test_rla : (run [0x17] { start with a := 0x80 }).map (fun t => (t.a, t.f)) = some (0x00, 0x10) := by decide
/-- B5.14: both corrections. -/
theorem test_daa_add : (run [0x27] { start with a := 0x9A }).map (fun t => (t.a, t.f)) = some (0x00, 0x90) := by decide
/-- B5.16: N, H, C all set. -/
theorem test_daa_sub :
    (run [0x27] { start with a := 0x00, f := 0x70 }).map (fun t => (t.a, t.f)) = some (0x9A, 0x50) := by decide
/-- B5.8. -/
theorem test_cpl :
    (run [0x2F] { start with a := 0x35, f := 0x90 }).map (fun t => (t.a, t.f)) = some (0xCA, 0xF0) := by decide
/-- B5.10. -/
theorem test_ccf : (run [0x3F] { start with f := 0xF0 }).map (fun t => t.f) = some 0x80 := by decide
/-- B6.3: Zero kept, Half-carry out of bit 11. -/
theorem test_add_HL_SP :
    (run [0x39] (withHL 0x0FFF { start with sp := 0x0001, f := 0xC0 })).map (fun t => (t.hl, t.f)) =
      some (0x1000, 0xA0) := by decide
/-- B6.6. -/
theorem test_add_SP_d :
    (run [0xE8, 0xFF] { start with sp := 0x0001, f := 0xC0 }).map (fun t => (t.sp, t.f, t.cycles)) =
      some (0x0000, 0x30, 16) := by decide
/-- B6.10. -/
theorem test_inc_SP :
    (run [0x33] { start with sp := 0xFFFF, f := 0xF0 }).map (fun t => (t.sp, t.f)) = some (0x0000, 0xF0) := by decide
/-- B7.11: PC wraps. -/
theorem test_jr_d :
    (run [0x18, 0x10] { start with pc := 0xFFF8 }).map (fun t => (t.pc, t.cycles)) = some (0x000A, 12) := by decide
/-- B7.14: not taken. -/
theorem test_jr_NZ_d :
    (run [0x20, 0xFC] { start with pc := 0x0204, f := 0x80 }).map (fun t => (t.pc, t.cycles)) =
      some (0x0206, 8) := by decide
/-- B7.18: taken. -/
theorem test_call_NC_nn :
    (run [0xD4, 0x00, 0x30] { start with pc := 0x0150, sp := 0xDFFF }).map
      (fun t => (dataAccesses 3 t, t.pc, t.sp, t.cycles)) =
      some ([.write 0xDFFE 0x01, .write 0xDFFD 0x53], 0x3000, 0xDFFD, 24) := by decide
/-- B7.23: IME is set. -/
theorem test_reti :
    (run [0xD9] (holding 0xDFFC [0x51, 0x01] { start with sp := 0xDFFC })).map (fun t => (t.pc, t.sp, t.ime)) =
      some (0x0151, 0xDFFE, true) := by decide
/-- B7.26: the return address wraps. -/
theorem test_rst_00 :
    (run [0xC7] { start with pc := 0xFFFF, sp := 0x0001 }).map (fun t => (dataAccesses 1 t, t.pc, t.sp)) =
      some ([.write 0x0000 0x00, .write 0xFFFF 0x00], 0x0000, 0xFFFF) := by decide
/-- B8.4: the padding is consumed whatever it is. -/
theorem test_stop :
    (run [0x10, 0x55] start).map (fun t => (t.stopped, t.halted, t.pc, t.cycles)) =
      some (true, true, 0x0202, 4) := by decide
/-- B8.7. -/
theorem test_invalid : stops [0xD3] { start with pc := 0x0300 } = some (.invalidOpcode .primary 0xD3) := by decide
/-- S1, through the escape. -/
theorem test_rlc_B :
    (run [0xCB, 0x00] { start with b := 0x85 }).map (fun t => (t.b, t.f, t.cycles)) = some (0x0B, 0x10, 12) := by decide
/-- S5: the sign bit is held. -/
theorem test_sra_A : (run [0xCB, 0x2F] { start with a := 0x85 }).map (fun t => (t.a, t.f)) = some (0xC2, 0x10) := by decide
/-- S2. -/
theorem test_bit_7_A :
    (run [0xCB, 0x7F] { start with a := 0x00 }).map (fun t => (t.a, t.f, t.cycles)) = some (0x00, 0xA0, 12) := by decide
/-- R301: the byte is written back. -/
theorem test_res_0_mHL :
    (run [0xCB, 0x86] (holding 0xC000 [0xFF] (withHL 0xC000 start))).map (fun t => (dataAccesses 2 t, t.cycles)) =
      some ([.read 0xC000 0xFF, .write 0xC000 0xFE], 20) := by decide
/-- R350: type 0 goes before type 2. -/
theorem test_service :
    (run [0x00] { start with ime := true, ieReg := 0x05, ifReg := 0xE5, sp := 0xD000 }).map
      (fun t => (t.pc, t.sp, t.ifReg, t.ime, t.cycles)) = some (0x0040, 0xCFFE, 0xE4, false, 20) := by decide
/-- The word of a row of opcode_table.json runs as the first instruction after reset. -/
theorem test_withFetchWord :
    (match step (State.reset.withFetchWord 16 0xCB37) with
      | .next t => some (t.a, t.pc)
      | _ => none) = some (0x10, 0x0102) := by decide

/-! ### A witness for the hypotheses of every obligation that has some -/

/-- A state that is about to fetch, with the stack at an address of RAM that wraps. -/
def wrapping : State := { start with sp := 0x0001, pc := 0xFFFF }

/-- A state with interrupt type 2 to service, halted. -/
def pendingIrq : State := { start with ime := true, ieReg := 0x04, ifReg := 0xE4, halted := true }

/-- A state whose environment routes IE and IF and declares a ROM and a device (20_memory.md R62). -/
def routed : State :=
  { start with env := [⟨0x0000, 0x7FFF, .rom⟩, ⟨0xFF0F, 0xFF0F, .pendingFlags⟩, ⟨0xFF00, 0xFF7F, .device⟩,
      ⟨0xFFFF, 0xFFFF, .enableMask⟩] }

theorem test_witness_EncodedInstructionsDecode :
    WellFormed (.ld_A_mnn 0xFFFF) = true ∧ WellFormed .bit_7_mHL = true ∧ WellFormed (.invalid 0xED) = true := by
  decide
theorem test_witness_DecodedBytesAreTheEncoding :
    decode [0xEA, 0xFF, 0xFF, 0x00] = .ok (.ld_mnn_A 0xFFFF, [0x00]) ∧ decode [0x10, 0xFF] = .ok (.stop, []) :=
  ⟨rfl, rfl⟩
theorem test_witness_ByteZeroGivesTheLength :
    (primarySlot 0xCD).length ≤ [(0x00 : Byte), 0x40].length + 1 ∧ [(0x00 : Byte)].length + 1 < (primarySlot 0xCD).length ∧
    (primarySlot 0xE2).length = 1 ∧ (primarySlot 0xF2).length = 1 := by decide
theorem test_witness_FlagLayerWritesOneBit : Flag.zero ≠ Flag.carry := by decide
theorem test_witness_RamReadsWhatWasWritten :
    Memory.wf start.mem = true ∧ start.IsRam 0x0000 ∧ start.IsRam 0xFFFF ∧ (0xFFFF : Word) ≠ 0x0000 := by decide
theorem test_witness_EqualContentsAreEqualMemories :
    Memory.wf [(0x0000, 0x12), (0xFFFF, 0x34)] = true ∧
    Memory.wf (Memory.store (Memory.store [] 0xFFFF 0x34) 0x0000 0x12) = true ∧
    ∀ a, a < 65536 → Memory.read [(0x0000, 0x12), (0xFFFF, 0x34)] a =
      Memory.read (Memory.store (Memory.store [] 0xFFFF 0x34) 0x0000 0x12) a :=
  ⟨by decide, by decide, fun _ _ => rfl⟩
theorem test_witness_AccumulatorThroughTheIoPage :
    (0xFF00 : Word).toNat = 0xFF00 + (0x00 : Byte).toNat ∧
    (0xFFFF : Word).toNat = 0xFF00 + ({ start with c := 0xFF } : State).c.toNat := by decide
theorem test_witness_AbsoluteJumps :
    ({ start with f := 0x80 } : State).cond .Z = true ∧ ({ start with f := 0x80 } : State).cond .NZ = false ∧
    ({ start with f := 0x10 } : State).cond .C = true ∧ ({ start with f := 0x10 } : State).cond .NC = false := by
  decide
theorem test_witness_RelativeJumps : start.cond .NZ = true ∧ start.cond .Z = false := by decide
theorem test_witness_CallsPushTheNextAddress : start.cond .NC = true ∧ start.cond .C = false := by decide
theorem test_witness_ReturnsPopTheAddress : wrapping.cond .NZ = true ∧ wrapping.cond .Z = false := by decide
theorem test_witness_ReturnFromInterruptSetsIme : ∃ t, exec .ret wrapping = .next t := ⟨_, rfl⟩
theorem test_witness_InvalidBytesRaiseInvalidOpcode :
    (0xFD : Byte) ∈ Config.invalidPrimary ∧ (wrapping.placeBytes 0xFFFF [0xFD]).FetchesNext ∧
    (wrapping.placeBytes 0xFFFF [0xFD]).IsRam 0xFFFF ∧ (wrapping.placeBytes 0xFFFF [0xFD]).peek 0xFFFF = 0xFD := by
  decide
theorem test_witness_PushThenPopRestores :
    wrapping.Inv ∧ wrapping.IsRam (wrapping.sp - 1) ∧ wrapping.IsRam (wrapping.sp - 2) := by decide
theorem test_witness_CallThenReturnComesBack :
    start.Inv ∧ start.IsRam (start.sp - 1) ∧ start.IsRam (start.sp - 2) := by decide
theorem test_witness_FlagsFollowTheTable :
    (∃ t, exec (Form.pop .AF).toInstr wrapping = .next t) ∧ (∃ t, exec (Form.ext (.bit .o7 .mHL)).toInstr routed = .next t) ∧
    Form.daa ≠ .pop .AF := ⟨⟨_, rfl⟩, ⟨_, rfl⟩, by decide⟩
theorem test_witness_AccessesFollowTheTable :
    (∃ t, exec (Form.inc8 .mHL).toInstr routed = .next t) ∧ (∃ t, exec (Form.escape 0x86).toInstr start = .next t) :=
  ⟨⟨_, rfl⟩, ⟨_, rfl⟩⟩
theorem test_witness_CyclesFollowTheTable :
    (∃ t, exec (Form.callCond .NC 0x3000).toInstr start = .next t) ∧ (∃ t, exec (Form.callCond .C 0x3000).toInstr start = .next t) :=
  ⟨⟨_, rfl⟩, ⟨_, rfl⟩⟩
theorem test_witness_OtherRegistersUnchanged :
    (∃ t, exec (Form.ldAInc).toInstr start = .next t) ∧ Form.ldAInc.writesReg .B = false ∧ Form.ldAInc.writesSP = false ∧
    Form.ldAInc.writesPC = false := ⟨⟨_, rfl⟩, by decide, by decide, by decide⟩
theorem test_witness_OtherBytesUnchanged :
    (∃ t, exec (Form.push .DE).toInstr wrapping = .next t) ∧ (0xFFFE : Word) ∉ storedAt (.push .DE) wrapping ∧
    (0xFFFF : Word) ∈ storedAt (.push .DE) wrapping := ⟨⟨_, rfl⟩, by decide, by decide⟩
theorem test_witness_ControlStateUnchanged_runs : ∃ t, exec (.ldh_mn_A 0x0F) routed = .next t := ⟨_, rfl⟩
theorem test_witness_ControlStateUnchanged :
    storedAt (.ldhImmA 0x0F) routed = [0xFF0F] ∧ routed.kindAt 0xFF0F = .pendingFlags ∧
    storedAt (.ldhImmA 0xFF) routed = [0xFFFF] ∧ routed.kindAt 0xFFFF = .enableMask ∧
    CellKind.pendingFlags ≠ .enableMask := ⟨rfl, rfl, rfl, rfl, by decide⟩
theorem test_witness_EveryInstructionCompletes :
    (∀ op, Instr.ld_A_mC ≠ .invalid op) ∧ (∀ e, Instr.escape 0xFF = .escape e → e ∉ Config.unimplExtended) := by
  constructor
  · intro op h; cases h
  · intro e _; simp [Config.unimplExtended]
theorem test_witness_ExecuteDoesNotReadControlState :
    ∃ t, exec Form.ei.toInstr { start with halted := true, stopped := true } = .next t := ⟨_, rfl⟩
theorem test_witness_StepRunsTheDecodedInstruction :
    let s := wrapping.placeBytes 0xFFFF [0xCD, 0x34, 0x12]
    s.FetchesNext ∧ s.IsRam s.pc ∧ s.IsRam (s.pc + 1) ∧ s.IsRam (s.pc + 2) ∧
    decode [s.peek s.pc, s.peek (s.pc + 1), s.peek (s.pc + 2)] = .ok (.call_nn 0x1234, []) ∧
    (∀ op, Instr.call_nn 0x1234 ≠ .invalid op) ∧ (∀ e, Instr.call_nn 0x1234 ≠ .escape e) :=
  ⟨by decide, by decide, by decide, by decide, rfl, fun _ h => (by cases h), fun _ h => (by cases h)⟩
theorem test_witness_StepsThatDoNotFetch :
    ({ start with stopped := true } : State).stopped = true ∧
    (pendingIrq.stopped = false ∧ serviceable pendingIrq = some .t2) ∧
    (let s : State := { start with halted := true, ieReg := 0x04 }
     s.stopped = false ∧ serviceable s = none ∧ s.halted = true ∧ (s.ieReg &&& s.ifReg &&& 0x1F) = 0) ∧
    (let s : State := { pendingIrq with ime := false }
     s.stopped = false ∧ serviceable s = none ∧ s.halted = true ∧ (s.ieReg &&& s.ifReg &&& 0x1F) ≠ 0) := by decide
theorem test_witness_ServiceStepTakesTheInterrupt :
    (pendingIrq.Inv ∧ pendingIrq.ime = true ∧ pendingIrq.highestPriority = some .t2 ∧
      pendingIrq.IsRam (pendingIrq.sp - 1) ∧ pendingIrq.IsRam (pendingIrq.sp - 2)) ∧
    start.ime = false ∧ ({ pendingIrq with ieReg := 0x00 } : State).highestPriority = none := by decide
theorem test_witness_ResetAndStopWake :
    routed.Inv ∧ ({ start with stopped := true, halted := true } : State).stopped = true ∧ start.stopped = false := by
  decide
theorem test_witness_StepKeepsTheInvariant : routed.Inv ∧ ∃ t, step routed = .next t := ⟨by decide, _, rfl⟩
theorem test_witness_EventsKeepTheInvariant : pendingIrq.Inv := by decide
theorem test_witness_StepStopsOnlyOnInvalidBytes :
    step (wrapping.placeBytes 0xFFFF [0xD3]) = .fault (.invalidOpcode .primary 0xD3) := rfl
theorem test_witness_ExecuteDispatchesByTheSlot :
    decode [0xCB, 0xFF] = .ok (.set_7_A, []) ∧ decode [0xD3] = .ok (.invalid 0xD3, []) ∧
    (0xCD : Byte) ∉ Config.invalidPrimary ∧ 3 ≤ [(0x00 : Byte), 0x00, 0x00].length := ⟨rfl, rfl, by decide, by decide⟩

end Sys2Proof.Tests
end

section
/-! PROOFS of the statements of 10_state.md, part 1: rules of the operations on the state. One lemma per field for
the operations that read or write an operand, compute on A, or return from the stack; and what each update leaves of
the general registers. -/

namespace Sys2Proof.Machine

/-! ### readOperand -/

@[simp] theorem State.readOperand_snd_f (o : Operand8) (s : State) : (s.readOperand o).2.f = s.f := by
  cases o <;> simp [State.readOperand]
@[simp] theorem State.readOperand_snd_sp (o : Operand8) (s : State) : (s.readOperand o).2.sp = s.sp := by
  cases o <;> simp [State.readOperand]
@[simp] theorem State.readOperand_snd_pc (o : Operand8) (s : State) : (s.readOperand o).2.pc = s.pc := by
  cases o <;> simp [State.readOperand]
@[simp] theorem State.readOperand_snd_halted (o : Operand8) (s : State) :
    (s.readOperand o).2.halted = s.halted := by cases o <;> simp [State.readOperand]
@[simp] theorem State.readOperand_snd_stopped (o : Operand8) (s : State) :
    (s.readOperand o).2.stopped = s.stopped := by cases o <;> simp [State.readOperand]
@[simp] theorem State.readOperand_snd_ime (o : Operand8) (s : State) : (s.readOperand o).2.ime = s.ime := by
  cases o <;> simp [State.readOperand]
@[simp] theorem State.readOperand_snd_getReg (o : Operand8) (r : Reg8) (s : State) :
    (s.readOperand o).2.getReg r = s.getReg r := by cases o <;> simp [State.readOperand]
@[simp] theorem State.readOperand_snd_getFlag (o : Operand8) (fl : Flag) (s : State) :
    (s.readOperand o).2.getFlag fl = s.getFlag fl := State.getFlag_congr (State.readOperand_snd_f o s) fl

/-! ### writeOperand -/

@[simp] theorem State.writeOperand_f (o : Operand8) (v : Byte) (s : State) : (s.writeOperand o v).f = s.f := by
  cases o <;> simp [State.writeOperand]
@[simp] theorem State.writeOperand_sp (o : Operand8) (v : Byte) (s : State) :
    (s.writeOperand o v).sp = s.sp := by cases o <;> simp [State.writeOperand]
@[simp] theorem State.writeOperand_pc (o : Operand8) (v : Byte) (s : State) :
    (s.writeOperand o v).pc = s.pc := by cases o <;> simp [State.writeOperand]
@[simp] theorem State.writeOperand_halted (o : Operand8) (v : Byte) (s : State) :
    (s.writeOperand o v).halted = s.halted := by cases o <;> simp [State.writeOperand]
@[simp] theorem State.writeOperand_stopped (o : Operand8) (v : Byte) (s : State) :
    (s.writeOperand o v).stopped = s.stopped := by cases o <;> simp [State.writeOperand]
@[simp] theorem State.writeOperand_ime (o : Operand8) (v : Byte) (s : State) :
    (s.writeOperand o v).ime = s.ime := by cases o <;> simp [State.writeOperand]
@[simp] theorem State.writeOperand_getFlag (o : Operand8) (v : Byte) (fl : Flag) (s : State) :
    (s.writeOperand o v).getFlag fl = s.getFlag fl := State.getFlag_congr (State.writeOperand_f o v s) fl

/-! ### aluApply -/

/-- An accumulator operation is its flags, and its result in A but for CP (42_alu8.md R185, R193). -/
theorem aluApply_eq (op : AluOp) (v : Byte) (s : State) :
    let k := aluCompute op s.a v (s.getFlag .carry)
    aluApply op v s =
      if op = .cp then s.setFlags k.z k.n k.h k.c else (s.setFlags k.z k.n k.h k.c).setReg .A k.w := by
  cases op <;> simp [aluApply]

@[simp] theorem aluApply_f (op : AluOp) (v : Byte) (s : State) :
    let k := aluCompute op s.a v (s.getFlag .carry)
    (aluApply op v s).f = (s.setFlags k.z k.n k.h k.c).f := by
  intro k; rw [aluApply_eq]; split <;> simp [k]
@[simp] theorem aluApply_sp (op : AluOp) (v : Byte) (s : State) : (aluApply op v s).sp = s.sp := by
  rw [aluApply_eq]; split <;> simp
@[simp] theorem aluApply_pc (op : AluOp) (v : Byte) (s : State) : (aluApply op v s).pc = s.pc := by
  rw [aluApply_eq]; split <;> simp
@[simp] theorem aluApply_halted (op : AluOp) (v : Byte) (s : State) : (aluApply op v s).halted = s.halted := by
  rw [aluApply_eq]; split <;> simp
@[simp] theorem aluApply_stopped (op : AluOp) (v : Byte) (s : State) :
    (aluApply op v s).stopped = s.stopped := by rw [aluApply_eq]; split <;> simp
@[simp] theorem aluApply_ime (op : AluOp) (v : Byte) (s : State) : (aluApply op v s).ime = s.ime := by
  rw [aluApply_eq]; split <;> simp

/-! ### The two returns -/

@[simp] theorem returnFromStack_f (s : State) : (returnFromStack s).f = s.f := by simp [returnFromStack]
@[simp] theorem returnFromStack_halted (s : State) : (returnFromStack s).halted = s.halted := by
  simp [returnFromStack]
@[simp] theorem returnFromStack_stopped (s : State) : (returnFromStack s).stopped = s.stopped := by
  simp [returnFromStack]
@[simp] theorem returnFromStack_ime (s : State) : (returnFromStack s).ime = s.ime := by simp [returnFromStack]
@[simp] theorem returnFromStack_getReg (r : Reg8) (s : State) : (returnFromStack s).getReg r = s.getReg r := by
  cases r <;> simp [returnFromStack, State.getReg]

@[simp] theorem returnFromInterrupt_f (s : State) : (returnFromInterrupt s).f = s.f := by
  simp [returnFromInterrupt]
@[simp] theorem returnFromInterrupt_halted (s : State) : (returnFromInterrupt s).halted = s.halted := by
  simp [returnFromInterrupt]
@[simp] theorem returnFromInterrupt_stopped (s : State) : (returnFromInterrupt s).stopped = s.stopped := by
  simp [returnFromInterrupt]
@[simp] theorem returnFromInterrupt_ime (s : State) : (returnFromInterrupt s).ime = true := by
  simp [returnFromInterrupt]
@[simp] theorem returnFromInterrupt_getReg (r : Reg8) (s : State) :
    (returnFromInterrupt s).getReg r = s.getReg r := by
  cases r <;> simp [returnFromInterrupt, returnFromStack, State.getReg]

/-! ### What an update leaves of the flags -/

@[simp] theorem State.setReg_getFlag (r : Reg8) (v : Byte) (fl : Flag) (s : State) :
    (s.setReg r v).getFlag fl = s.getFlag fl := State.getFlag_congr (State.setReg_f r v s) fl
@[simp] theorem State.setHL_getFlag (v : Word) (fl : Flag) (s : State) :
    (s.setHL v).getFlag fl = s.getFlag fl := rfl
@[simp] theorem State.setPair_getFlag (rp : Pair) (v : Word) (fl : Flag) (s : State) :
    (s.setPair rp v).getFlag fl = s.getFlag fl := State.getFlag_congr (State.setPair_f rp v s) fl
@[simp] theorem State.took_getFlag (k : Nat) (fl : Flag) (s : State) : (s.took k).getFlag fl = s.getFlag fl := rfl

/-! ### What an update leaves of the general registers -/

@[simp] theorem State.setFlag_getReg (fl : Flag) (v : Bool) (r : Reg8) (s : State) :
    (s.setFlag fl v).getReg r = s.getReg r := rfl
@[simp] theorem State.setFlags_getReg (z n h c : Bool) (r : Reg8) (s : State) :
    (s.setFlags z n h c).getReg r = s.getReg r := by simp only [State.setFlags, State.setFlag_getReg]
@[simp] theorem State.took_getReg (k : Nat) (r : Reg8) (s : State) : (s.took k).getReg r = s.getReg r := rfl
@[simp] theorem State.jumpTo_getReg (v : Word) (r : Reg8) (s : State) :
    (s.jumpTo v).getReg r = s.getReg r := rfl
@[simp] theorem State.write16_getReg (x v : Word) (r : Reg8) (s : State) :
    (s.write16 x v).getReg r = s.getReg r := by cases r <;> simp [State.getReg]
@[simp] theorem State.push16_getReg (v : Word) (r : Reg8) (s : State) :
    (s.push16 v).getReg r = s.getReg r := by cases r <;> simp [State.getReg]
@[simp] theorem State.pop16_snd_getReg (r : Reg8) (s : State) : s.pop16.2.getReg r = s.getReg r := by
  cases r <;> simp [State.getReg]
@[simp] theorem State.setPair_SP_getReg (v : Word) (r : Reg8) (s : State) :
    (s.setPair .SP v).getReg r = s.getReg r := rfl

theorem State.getReg_setReg_of_ne {r q : Reg8} (v : Byte) (s : State) (h : ¬ r = q) :
    (s.setReg r v).getReg q = s.getReg q := State.getReg_setReg_other v s (Ne.symm h)

theorem State.setHL_getReg_other {r : Reg8} (v : Word) (s : State) (hh : r ≠ .H) (hl : r ≠ .L) :
    (s.setHL v).getReg r = s.getReg r := by
  cases r with
  | H => exact absurd rfl hh
  | L => exact absurd rfl hl
  | _ => rfl

theorem State.setPair_getReg_other {rp : Pair} {r : Reg8} (v : Word) (s : State) (h : rp.holds r = false) :
    (s.setPair rp v).getReg r = s.getReg r := by
  cases rp <;> cases r <;> cases h <;> rfl

theorem State.setStackPair_getReg_other {rp2 : StackPair} {r : Reg8} (v : Word) (s : State)
    (h : rp2.holds r = false) : (s.setStackPair rp2 v).getReg r = s.getReg r := by
  cases rp2 <;> cases r <;> cases h <;> rfl

theorem State.setPair_sp_other {rp : Pair} (v : Word) (s : State) (h : rp ≠ .SP) :
    (s.setPair rp v).sp = s.sp := by
  cases rp with
  | SP => exact absurd rfl h
  | BC | DE | HL => rfl

theorem State.writeOperand_getReg_other {o : Operand8} {r : Reg8} (v : Byte) (s : State) (h : o ≠ .reg r) :
    (s.writeOperand o v).getReg r = s.getReg r := by
  cases o with
  | reg q => exact State.getReg_setReg_of_ne v s fun e => h (e ▸ rfl)
  | mHL => exact State.writeByte_getReg s.hl v r s

theorem aluApply_getReg_other {op : AluOp} {r : Reg8} (v : Byte) (s : State) (h : r = .A → op = .cp) :
    (aluApply op v s).getReg r = s.getReg r := by
  rw [aluApply_eq]
  split
  · exact State.setFlags_getReg _ _ _ _ r s
  · rename_i hne
    rw [State.getReg_setReg_other _ _ fun e => hne (h e), State.setFlags_getReg]

/-! ### The escape -/

/-- No extended byte is without a handler (D6), so the escape is the extended instruction of its byte. -/
theorem effectOf_escape_eq_ext (e : Byte) (s : State) :
    effectOf (.escape e) s = effectOf (.ext (extendedForm e)) s :=
  effectOf_escape e s List.not_mem_nil

end Sys2Proof.Machine
end

section
/-! Part 2: registers and control state. What an instruction leaves of the general registers, SP and PC, and what it
makes of `ime`, `halted` and `stopped`. -/

namespace Sys2Proof.Machine

/-- From `s` to `t` the registers changed as the tables of Safety.lean allow the form, and the control booleans went
as its rows say (10_state.md R22, R26, R27, R36 to R38). -/
structure Frame (f : Form) (s t : State) : Prop where
  reg : ∀ r, f.writesReg r = false → t.getReg r = s.getReg r
  sp : f.writesSP = false → t.sp = s.sp
  pc : f.writesPC = false → t.pc = s.pc
  ime : t.ime = f.imeAfter s.ime
  halted : t.halted = f.haltedAfter s.halted
  stopped : t.stopped = f.stoppedAfter s.stopped

theorem frame_ext (x : ExtForm) (s : State) : Frame (.ext x) s (viaEscape (extHandler x s)) := by
  cases x <;> constructor <;>
    simp +contextual [Form.writesReg, ExtForm.writesReg, Form.writesSP, Form.writesPC, Form.imeAfter,
      Form.haltedAfter, Form.stoppedAfter, viaEscape, extHandler, extRot, extBit, extRes, extSet,
      State.writeOperand_getReg_other]

/-- Every instruction keeps to its rows. The forms outside the named cases read or write operands with operations
whose rules stand above, so the field lemmas of these settle each clause. -/
theorem exec_frame {f : Form} {s t : State} (h : exec f.toInstr s = .next t) : Frame f s t := by
  rw [exec_toInstr] at h
  cases f with
  | invalid op => cases h
  | ext x => cases h; exact frame_ext x s
  | escape e =>
    rw [effectOf_escape_eq_ext] at h
    cases h
    obtain ⟨hreg, hsp, hpc, hime, hhalted, hstopped⟩ := frame_ext (extendedForm e) s
    exact ⟨hreg, hsp, hpc, hime, hhalted, hstopped⟩
  | halt | stop | di | ei => cases h; constructor <;> intros <;> rfl
  | callCond cc nn | retCond cc | jpCond cc nn | jrCond cc d =>
    cases h
    simp only [doCallCond, doRetCond, doJpCond, doJrCond]
    constructor <;> split <;>
      simp [Form.writesSP, Form.writesPC, Form.imeAfter, Form.haltedAfter, Form.stoppedAfter, State.callTo]
  | _ =>
    cases h
    constructor <;>
      simp +contextual [Form.writesReg, Form.writesSP, Form.writesPC, Form.imeAfter, Form.haltedAfter,
        Form.stoppedAfter, State.getReg_setReg_other, State.getReg_setReg_of_ne, State.setHL_getReg_other,
        State.setPair_getReg_other, State.setStackPair_getReg_other, State.setPair_sp_other,
        State.writeOperand_getReg_other, aluApply_getReg_other, doNop, doLdRegReg, doLdRegImm, doLdRegMem,
        doLdMemReg, doLdMemImm, loadA, doLdAPtr, doLdPtrA, doLdAAbs, doLdAbsA, doLdhAImm, doLdhImmA, doLdAIoC,
        doLdIoCA, doLdIncA, doLdAInc, doLdDecA, doLdADec, doLdPairImm, doLdSPHL, doLdAbsSP, doLdHLSP, doPush,
        doPop, doInc8, doDec8, doAlu, doAluImm, doAccRot, doDaa, doCpl, doScf, doCcf, doAddHL, doAddSP,
        doIncPair, doDecPair, doJp, doJpHL, doJr, State.callTo, doCall, doRst, doRet, doReti]

end Sys2Proof.Machine
end

section
/-! Part 3: storage. An instruction reaches memory, IE and IF through writes on the port alone, and these are the
writes of its row of 20_memory.md R68. -/

namespace Sys2Proof.Machine

/-! ### The storage behind the port -/

/-- What a write on the port can reach (memory, IE and IF), with the map that says where it goes. -/
def State.storage (s : State) : Memory × Byte × Byte × List Region := (s.mem, s.ieReg, s.ifReg, s.env)

theorem State.storage_eq_iff {s t : State} :
    t.storage = s.storage ↔ t.mem = s.mem ∧ t.ieReg = s.ieReg ∧ t.ifReg = s.ifReg ∧ t.env = s.env := by
  simp [State.storage]

@[simp] theorem State.setFlag_storage (fl : Flag) (x : Bool) (s : State) :
    (s.setFlag fl x).storage = s.storage := rfl
@[simp] theorem State.setFlags_storage (z n h c : Bool) (s : State) :
    (s.setFlags z n h c).storage = s.storage := by simp only [State.setFlags, State.setFlag_storage]
@[simp] theorem State.setReg_storage (r : Reg8) (v : Byte) (s : State) : (s.setReg r v).storage = s.storage := by
  simp [State.storage]
@[simp] theorem State.setHL_storage (v : Word) (s : State) : (s.setHL v).storage = s.storage := rfl
@[simp] theorem State.setPair_storage (rp : Pair) (v : Word) (s : State) :
    (s.setPair rp v).storage = s.storage := by simp [State.storage]
@[simp] theorem State.setStackPair_storage (rp2 : StackPair) (v : Word) (s : State) :
    (s.setStackPair rp2 v).storage = s.storage := by simp [State.storage]
@[simp] theorem State.jumpTo_storage (v : Word) (s : State) : (s.jumpTo v).storage = s.storage := rfl
@[simp] theorem State.took_storage (k : Nat) (s : State) : (s.took k).storage = s.storage := rfl
@[simp] theorem State.readByte_snd_storage (a : Word) (s : State) : (s.readByte a).2.storage = s.storage := by
  simp [State.storage]
@[simp] theorem State.pop16_snd_storage (s : State) : s.pop16.2.storage = s.storage := by simp [State.storage]
@[simp] theorem State.readOperand_snd_storage (o : Operand8) (s : State) :
    (s.readOperand o).2.storage = s.storage := by cases o <;> simp [State.readOperand]
@[simp] theorem aluApply_storage (op : AluOp) (v : Byte) (s : State) : (aluApply op v s).storage = s.storage := by
  rw [aluApply_eq]; split <;> simp
@[simp] theorem returnFromStack_storage (s : State) : (returnFromStack s).storage = s.storage := by
  simp [returnFromStack, State.storage]
@[simp] theorem returnFromInterrupt_storage (s : State) : (returnFromInterrupt s).storage = s.storage := by
  simp [returnFromInterrupt, returnFromStack, State.storage]

/-- What a write makes of the storage depends on the storage alone. -/
theorem State.writeByte_storage_congr {s u : State} (h : u.storage = s.storage) (a : Word) (v : Byte) :
    (u.writeByte a v).storage = (s.writeByte a v).storage := by
  obtain ⟨hmem, hie, hif, henv⟩ := State.storage_eq_iff.mp h
  simp only [State.writeByte, State.accept, State.kindAt_congr henv]
  cases s.kindAt a <;> simp [State.storage, hmem, hie, hif, henv]

/-! ### Writes at given addresses -/

/-- The storage of `t` is that of `s` after writes on the port at these addresses, in this order. -/
inductive Stores : List Word → State → State → Prop where
  | none {s t : State} (h : t.storage = s.storage) : Stores [] s t
  | write {a : Word} {as : List Word} {s u t : State} (v : Byte) (hu : u.storage = (s.writeByte a v).storage)
      (h : Stores as u t) : Stores (a :: as) s t

theorem Stores.one {a : Word} {s t : State} (v : Byte) (h : t.storage = (s.writeByte a v).storage) :
    Stores [a] s t := .write v h (.none rfl)

theorem Stores.two {a b : Word} {s t : State} (v w : Byte)
    (h : t.storage = ((s.writeByte a v).writeByte b w).storage) : Stores [a, b] s t :=
  .write v rfl (.one w h)

theorem Stores.env {as : List Word} {s t : State} (h : Stores as s t) : t.env = s.env := by
  induction h with
  | none h =>
    obtain ⟨-, -, -, henv⟩ := State.storage_eq_iff.mp h
    exact henv
  | write v hu _ ih =>
    obtain ⟨-, -, -, henv⟩ := State.storage_eq_iff.mp hu
    rw [ih, henv, State.writeByte_env]

theorem Stores.wf {as : List Word} {s t : State} (h : Stores as s t) (hw : Memory.wf s.mem = true) :
    Memory.wf t.mem = true := by
  induction h with
  | none h =>
    obtain ⟨hmem, -⟩ := State.storage_eq_iff.mp h
    rwa [hmem]
  | write v hu _ ih =>
    obtain ⟨hmem, -⟩ := State.storage_eq_iff.mp hu
    exact ih (hmem ▸ State.writeByte_wf _ v hw)

theorem Stores.ifReg_top {as : List Word} {s t : State} (h : Stores as s t) :
    t.ifReg &&& 0xE0 = s.ifReg &&& 0xE0 := by
  induction h with
  | none h =>
    obtain ⟨-, -, hif, -⟩ := State.storage_eq_iff.mp h
    rw [hif]
  | write v hu _ ih =>
    obtain ⟨-, -, hif, -⟩ := State.storage_eq_iff.mp hu
    rw [ih, hif, State.writeByte_ifReg_top]

theorem Stores.ieReg {as : List Word} {s t : State} (h : Stores as s t)
    (hk : ∀ a ∈ as, s.kindAt a ≠ .enableMask) : t.ieReg = s.ieReg := by
  induction h with
  | none h =>
    obtain ⟨-, hie, -, -⟩ := State.storage_eq_iff.mp h
    exact hie
  | @write a as s u t v hu _ ih =>
    obtain ⟨-, hie, -, henv⟩ := State.storage_eq_iff.mp hu
    have hkind : ∀ b, u.kindAt b = s.kindAt b := State.kindAt_congr (henv.trans (State.writeByte_env a v s))
    rw [ih fun b hb => hkind b ▸ hk b (.tail a hb), hie, State.writeByte_ieReg v (hk a (.head as))]

theorem Stores.ifReg {as : List Word} {s t : State} (h : Stores as s t)
    (hk : ∀ a ∈ as, s.kindAt a ≠ .pendingFlags) : t.ifReg = s.ifReg := by
  induction h with
  | none h =>
    obtain ⟨-, -, hif, -⟩ := State.storage_eq_iff.mp h
    exact hif
  | @write a as s u t v hu _ ih =>
    obtain ⟨-, -, hif, henv⟩ := State.storage_eq_iff.mp hu
    have hkind : ∀ b, u.kindAt b = s.kindAt b := State.kindAt_congr (henv.trans (State.writeByte_env a v s))
    rw [ih fun b hb => hkind b ▸ hk b (.tail a hb), hif, State.writeByte_ifReg v (hk a (.head as))]

/-! ### What an instruction stores -/

theorem stores_of_push16 {s t : State} (v : Word) (h : t.storage = (s.push16 v).storage) :
    Stores [s.sp - 1, s.sp - 2] s t := by
  refine .two (hiByte v) (loByte v) (h.trans ?_)
  rw [State.push16_eq]
  apply State.writeByte_storage_congr
  exact State.writeByte_storage_congr (s := s) (u := { s with sp := s.sp - 1 }) rfl (s.sp - 1) (hiByte v)

/-- An operand read and written back (46_extended.md R289): a write at HL where it is in memory. -/
theorem stores_of_writeOperand {s t : State} (o : Operand8) (v : Byte)
    (h : t.storage = ((s.readOperand o).2.writeOperand o v).storage) : Stores (storedAt (.inc8 o) s) s t := by
  cases o with
  | reg r => exact .none (h.trans (State.setReg_storage r v s))
  | mHL =>
    simp only [State.readOperand, State.writeOperand, State.readByte_snd_hl] at h
    exact .one v (h.trans (State.writeByte_storage_congr (State.readByte_snd_storage s.hl s) s.hl v))

theorem stores_ext (x : ExtForm) (s : State) : Stores (storedAt (.ext x) s) s (viaEscape (extHandler x s)) := by
  cases x with
  | rot op o =>
    exact stores_of_writeOperand o (rotCompute op (s.readOperand o).1 (s.getFlag .carry)).1
      (by simp [viaEscape, extHandler, extRot])
  | bit b o => cases o <;> exact .none (by simp [viaEscape, extHandler, extBit])
  | res b o =>
    exact stores_of_writeOperand o (putBit (s.readOperand o).1 b.toNat false)
      (by simp [viaEscape, extHandler, extRes])
  | set b o =>
    exact stores_of_writeOperand o (putBit (s.readOperand o).1 b.toNat true)
      (by simp [viaEscape, extHandler, extSet])

/-- Every instruction makes the writes of its row of R68 and reaches storage in no other way. -/
theorem exec_stores {f : Form} {s t : State} (h : exec f.toInstr s = .next t) : Stores (storedAt f s) s t := by
  rw [exec_toInstr] at h
  cases f with
  | invalid op => cases h
  | ext x => cases h; exact stores_ext x s
  | escape e => rw [effectOf_escape_eq_ext] at h; cases h; exact stores_ext (extendedForm e) s
  | ldMemReg r => cases h; exact .one (s.getReg r) rfl
  | ldMemImm n => cases h; exact .one n rfl
  | ldPtrA p => cases h; exact .one s.a rfl
  | ldAbsA nn => cases h; exact .one s.a rfl
  | ldhImmA n => cases h; exact .one s.a rfl
  | ldIoCA => cases h; exact .one s.a rfl
  | ldIncA => cases h; exact .one s.a rfl
  | ldDecA => cases h; exact .one s.a rfl
  | ldAbsSP nn => cases h; exact .two (loByte s.sp) (hiByte s.sp) (by simp [doLdAbsSP, State.write16])
  | push rp2 => cases h; exact stores_of_push16 (s.getStackPair rp2) (by simp [doPush])
  | call nn => cases h; exact stores_of_push16 s.pc (by simp [doCall, State.callTo])
  | rst t => cases h; exact stores_of_push16 s.pc (by simp [doRst, State.callTo])
  | callCond cc nn =>
    cases h
    by_cases hc : s.cond cc = true
    · simp only [storedAt, accessRow, doCallCond, hc, if_true]
      exact stores_of_push16 s.pc (by simp [State.callTo])
    · simp only [storedAt, accessRow, doCallCond, hc]
      exact .none rfl
  | retCond cc =>
    cases h
    by_cases hc : s.cond cc = true
    · simp only [storedAt, accessRow, doRetCond, hc, if_true]
      exact .none (by simp)
    · simp only [storedAt, accessRow, doRetCond, hc]
      exact .none rfl
  | jpCond cc nn | jrCond cc d =>
    cases h
    simp only [doJpCond, doJrCond]
    split <;> exact .none rfl
  | inc8 o => cases h; exact stores_of_writeOperand o (incByte (s.readOperand o).1).1 (by simp [doInc8])
  | dec8 o => cases h; exact stores_of_writeOperand o (decByte (s.readOperand o).1).1 (by simp [doDec8])
  | alu op o => cases h; cases o <;> exact .none (by simp [doAlu])
  | nop | halt | stop | di | ei => cases h; exact .none rfl
  | _ =>
    cases h
    exact .none (by simp [doLdRegReg, doLdRegImm, doLdRegMem, loadA, doLdAPtr, doLdAAbs, doLdhAImm, doLdAIoC,
      doLdAInc, doLdADec, doLdPairImm, doLdSPHL, doLdHLSP, doPop, doAluImm, doAccRot, doDaa, doCpl, doScf, doCcf,
      doAddHL, doAddSP, doIncPair, doDecPair, doJp, doJpHL, doJr, doRet, doReti])

end Sys2Proof.Machine
end

section
/-! Part 4: flags. Every instruction follows its row of the flag table (10_state.md R33). -/

namespace Sys2Proof.Machine

/-- From `s` to `t` each flag went as the row says, and the padding of F is as before. -/
def FollowsRow (w : FlagRow) (s t : State) : Prop :=
  (∀ fl, (w.entry fl).Allows (s.getFlag fl) (t.getFlag fl)) ∧ t.f &&& 0x0F = s.f &&& 0x0F

theorem FollowsRow.congr {w : FlagRow} {s s' t t' : State} (h : FollowsRow w s' t') (hs : s'.f = s.f)
    (ht : t.f = t'.f) : FollowsRow w s t := by
  obtain ⟨hfl, hpad⟩ := h
  refine ⟨fun fl => ?_, by rw [ht, hpad, hs]⟩
  rw [State.getFlag_congr ht, ← State.getFlag_congr hs]
  exact hfl fl

theorem followsRow_untouched {s t : State} (h : t.f = s.f) : FollowsRow .untouched s t :=
  ⟨fun fl => by cases fl <;> exact State.getFlag_congr h _, by rw [h]⟩

theorem followsRow_aluApply (op : AluOp) (v : Byte) (s : State) : FollowsRow op.flagRow s (aluApply op v s) := by
  refine FollowsRow.congr (s' := s) ⟨fun fl => ?_, State.setFlags_padding _ _ _ _ s⟩ rfl (aluApply_f op v s)
  rw [State.getFlag_setFlags]
  cases op <;> cases fl <;>
    simp [AluOp.flagRow, FlagRow.entry, FlagEntry.Allows, aluCompute, addBytes, subBytes, logicOut]

theorem followsRow_ext (x : ExtForm) (s : State) : FollowsRow x.flagRow s (viaEscape (extHandler x s)) := by
  cases x with
  | rot op o =>
    simp only [viaEscape, extHandler, extRot]
    refine ⟨fun fl => ?_, by
      simp only [State.took_f, State.setFlags_padding, State.writeOperand_f, State.readOperand_snd_f]⟩
    rw [State.took_getFlag, State.took_getFlag, State.getFlag_setFlags]
    cases op <;> cases fl <;> simp [ExtForm.flagRow, FlagRow.entry, FlagEntry.Allows, rotCompute]
  | bit b o =>
    simp only [viaEscape, extHandler, extBit]
    refine ⟨fun fl => ?_, by simp only [State.took_f, State.setFlag_padding, State.readOperand_snd_f]⟩
    cases fl <;> simp [ExtForm.flagRow, FlagRow.entry, FlagEntry.Allows, State.getFlag_setFlag]
  | res b o | set b o => exact followsRow_untouched (by simp [viaEscape, extHandler, extRes, extSet])

/-- Every instruction but POP AF follows its row and leaves the padding; POP AF loads F whole. -/
theorem exec_followsRow {f : Form} {s t : State} (h : exec f.toInstr s = .next t) (hne : f ≠ .pop .AF) :
    FollowsRow f.flagRow s t := by
  rw [exec_toInstr] at h
  cases f with
  | invalid op => cases h
  | ext x => cases h; exact followsRow_ext x s
  | escape e => rw [effectOf_escape_eq_ext] at h; cases h; exact followsRow_ext (extendedForm e) s
  | alu op o =>
    cases h
    exact (followsRow_aluApply op (s.readOperand o).1 (s.readOperand o).2).congr (State.readOperand_snd_f o s) rfl
  | aluImm op n => cases h; exact followsRow_aluApply op n s
  | inc8 o | dec8 o | daa | cpl | scf | ccf | addHL rp =>
    cases h
    simp only [doInc8, doDec8, doDaa, doCpl, doScf, doCcf, doAddHL]
    refine ⟨fun fl => ?_, by simp only [State.took_f, State.setFlag_padding, State.writeOperand_f,
      State.readOperand_snd_f, State.setReg_f, State.setHL_f]⟩
    cases fl <;> simp [Form.flagRow, FlagRow.entry, FlagEntry.Allows, State.getFlag_setFlag]
  | accRot k | addSP d | ldHLSP d =>
    cases h
    simp only [doAccRot, doAddSP, doLdHLSP]
    refine ⟨fun fl => ?_, by simp only [State.took_f, State.setFlags_padding, State.setReg_f, State.setHL_f,
      State.setPair_f]⟩
    cases fl <;> simp [Form.flagRow, FlagRow.entry, FlagEntry.Allows, State.getFlag_setFlags]
  | pop rp2 =>
    cases h
    cases rp2 with
    | AF => exact absurd rfl hne
    | BC | DE | HL => exact followsRow_untouched (State.pop16_snd_f s)
  | nop | halt | stop | di | ei => cases h; exact followsRow_untouched rfl
  | callCond cc nn | retCond cc | jpCond cc nn | jrCond cc d =>
    cases h
    simp only [doCallCond, doRetCond, doJpCond, doJrCond]
    split <;> exact followsRow_untouched (by simp [State.callTo])
  | _ =>
    cases h
    exact followsRow_untouched (by simp [doLdRegReg, doLdRegImm, doLdRegMem, doLdMemReg, doLdMemImm, loadA,
      doLdAPtr, doLdPtrA, doLdAAbs, doLdAbsA, doLdhAImm, doLdhImmA, doLdAIoC, doLdIoCA, doLdIncA, doLdAInc,
      doLdDecA, doLdADec, doLdPairImm, doLdSPHL, doLdAbsSP, doPush, doIncPair, doDecPair, doJp, doJpHL, doJr,
      State.callTo, doCall, doRst, doRet, doReti])

end Sys2Proof.Machine
end

section
/-! Part 5: the invariant (State.Inv) through the fetch stage, an instruction, the service step and a Step. -/

namespace Sys2Proof.Machine

/-! ### The fetch stage -/

theorem State.readByte_inv {s : State} (a : Word) (h : s.Inv) : (s.readByte a).2.Inv := by
  simpa [State.Inv] using h

theorem State.fetchByte_inv {s : State} (h : s.Inv) : s.fetchByte.2.Inv := State.readByte_inv s.pc h

theorem State.skipBytes_inv (k : Nat) {s : State} (h : s.Inv) : (s.skipBytes k).Inv := by
  induction k generalizing s with
  | zero => exact h
  | succ k ih => exact ih (State.fetchByte_inv h)

/-- The fetch stage reads bytes and moves PC. -/
theorem State.fetch_inv {s : State} (h : s.Inv) : s.fetch.2.Inv := by
  have h1 := State.fetchByte_inv h
  have h2 := State.fetchByte_inv h1
  unfold State.fetch
  dsimp only
  split
  case h_1 | h_2 => exact h1
  case h_3 => exact h2
  case h_4 => exact State.fetchByte_inv h2
  case h_5 => exact State.skipBytes_inv _ h1
  case h_6 => split <;> exact h2

/-! ### An instruction -/

/-- The padding of F after POP AF (10_state.md R31). -/
theorem and_F0_and_0F (v : Byte) : v &&& 0xF0 &&& 0x0F = 0 := by
  rw [BitVec.and_assoc]
  exact BitVec.and_zero

theorem exec_padding {f : Form} {s t : State} (h : exec f.toInstr s = .next t) (hpad : s.f &&& 0x0F = 0) :
    t.f &&& 0x0F = 0 := by
  by_cases hf : f = .pop .AF
  · subst hf
    cases h
    exact and_F0_and_0F (loByte s.pop16.1)
  · exact (exec_followsRow h hf).2.trans hpad

/-- STOP sets `halted` too (45_cpu_control.md R272), so a core that an instruction leaves stopped is halted. -/
theorem haltedAfter_of_stoppedAfter {f : Form} {stopped halted : Bool} (h : stopped = true → halted = true)
    (hst : f.stoppedAfter stopped = true) : f.haltedAfter halted = true := by
  unfold Form.stoppedAfter at hst
  unfold Form.haltedAfter
  split at hst
  · rfl
  · split
    · rfl
    · rfl
    · exact h hst

theorem exec_inv {i : Instr} {s t : State} (hi : s.Inv) (h : exec i s = .next t) : t.Inv := by
  obtain ⟨f, rfl⟩ : ∃ f : Form, f.toInstr = i := ⟨_, Form.toInstr_ofInstr i⟩
  obtain ⟨hmem, hpad, hif, hst⟩ := hi
  have hs := exec_stores h
  have hf := exec_frame h
  refine ⟨hs.wf hmem, exec_padding h hpad, hs.ifReg_top.trans hif, fun hstopped => ?_⟩
  rw [hf.halted]
  exact haltedAfter_of_stoppedAfter hst (hf.stopped ▸ hstopped)

/-! ### The service step and the Step -/

theorem takeInterrupt_inv {s : State} (i : IrqType) (hi : s.Inv) (hs : s.stopped = false) :
    (takeInterrupt i s).Inv := by
  obtain ⟨hmem, hpad, hif, -⟩ := hi
  rw [takeInterrupt_eq]
  refine ⟨State.push16_wf s.pc hmem, ?_, ?_, fun hstopped => ?_⟩
  · exact (congrArg (· &&& 0x0F) (State.push16_f s.pc _)).trans hpad
  · exact (State.push16_ifReg_top s.pc _).trans ((putBit_irq_top s.ifReg i false).trans hif)
  · exact absurd ((State.push16_stopped s.pc _).symm.trans hstopped) (by simp [hs])

theorem step_inv {s t : State} (hi : s.Inv) (h : step s = .next t) : t.Inv := by
  obtain ⟨-, hstep⟩ | ⟨hs, i, -, hstep⟩ | ⟨-, -, -, -, hstep⟩ | ⟨hs, -, -, hstep⟩ := step_cases s <;>
    rw [hstep] at h
  · cases h; exact hi
  · cases h; exact takeInterrupt_inv i hi hs
  · cases h; exact hi
  · obtain ⟨hmem, hpad, hif, -⟩ := hi
    have hawake : State.Inv { s.clearOutputs with halted := false } :=
      ⟨hmem, hpad, hif, fun hstopped => absurd (hs.symm.trans hstopped) (by decide)⟩
    exact exec_inv (State.fetch_inv hawake) h

end Sys2Proof.Machine
end

section
/-! Part 6: the statements of 10_state.md, with the facts on pairs, the byte image of F and `Reset` that only they
need. -/

namespace Sys2Proof.Machine

/-! ### Pairs (R23) -/

theorem toNat_joinBytes (h l : Byte) : (joinBytes h l).toNat = h.toNat * 256 + l.toNat := by
  rw [joinBytes, BitVec.toNat_append, ← Nat.shiftLeft_add_eq_or_of_lt l.isLt, Nat.shiftLeft_eq]

theorem hiByte_eq_ofNat (v : Word) : hiByte v = BitVec.ofNat 8 (v.toNat / 256) := by
  apply BitVec.eq_of_toNat_eq
  simp [hiByte, Nat.shiftRight_eq_div_pow]

theorem loByte_eq_ofNat (v : Word) : loByte v = BitVec.ofNat 8 v.toNat := by
  apply BitVec.eq_of_toNat_eq
  simp [loByte]

theorem State.getPair_setPair (rp : Pair) (v : Word) (s : State) : (s.setPair rp v).getPair rp = v := by
  cases rp with
  | SP => rfl
  | BC | DE | HL => exact joinBytes_hi_lo v

/-- Settles O6: a pair is `joinBytes` of its halves, and is written by `hiByte` and `loByte`. -/
theorem pairsAreTheirTwoBytes : Obligations.PairsAreTheirTwoBytes := by
  intro s v
  refine ⟨toNat_joinBytes s.b s.c, toNat_joinBytes s.d s.e, toNat_joinBytes s.h s.l, toNat_joinBytes s.a s.readF,
    ?_, ?_, ?_, fun rp => State.getPair_setPair rp v s, ?_, rfl, rfl, rfl⟩
  all_goals rw [← hiByte_eq_ofNat, ← loByte_eq_ofNat]; rfl

/-! ### Flags (R30 to R33) -/

/-- F read whole has its flags at bits 7 to 4 (R30, D8). -/
theorem State.toNat_readF (s : State) :
    s.readF.toNat = bit01 (s.f.getLsbD 7) * 128 + bit01 (s.f.getLsbD 6) * 64 + bit01 (s.f.getLsbD 5) * 32 +
      bit01 (s.f.getLsbD 4) * 16 := by
  rw [State.readF_eq]
  generalize s.f = f
  revert f
  decide

/-- Settles O7, from the laws of the flag layer. -/
theorem flagLayerWritesOneBit : Obligations.FlagLayerWritesOneBit := fun s fl v =>
  ⟨State.getFlag_setFlag_same fl v s, fun _ hne => State.getFlag_setFlag_other v s hne,
    State.setFlag_padding fl v s, rfl, s.toNat_readF⟩

/-- Settles O43: POP AF's row allows anything, every other form follows its own. -/
theorem flagsFollowTheTable : Obligations.FlagsFollowTheTable := by
  intro f s t h
  by_cases hf : f = .pop .AF
  · subst hf
    exact ⟨fun fl => by cases fl <;> trivial, fun hne => absurd rfl hne⟩
  · obtain ⟨hfl, hpad⟩ := exec_followsRow h hf
    exact ⟨hfl, fun _ => hpad⟩

/-! ### Registers and control state (R22, R26, R27, R36 to R38) -/

/-- Settles O46, the register clauses of the frame. -/
theorem otherRegistersUnchanged : Obligations.OtherRegistersUnchanged := by
  intro f s t h
  obtain ⟨hreg, hsp, hpc, -, -, -⟩ := exec_frame h
  exact ⟨hreg, hsp, hpc⟩

/-- Settles O48: the control clauses of the frame, and what writes on the port can reach. -/
theorem controlStateUnchanged : Obligations.ControlStateUnchanged := by
  intro f s t h
  obtain ⟨-, -, -, hime, hhalted, hstopped⟩ := exec_frame h
  have hs := exec_stores h
  exact ⟨hime, hhalted, hstopped, hs.env, hs.ieReg, hs.ifReg⟩

/-! ### Reset and the invariant (R31, R40, R45) -/

/-- `Reset` writes IF through the controller, which keeps IF[7:5] (R345): with these set, IF becomes 0xE0. -/
theorem resetEvent_eq {s : State} (hif : s.ifReg &&& 0xE0 = 0xE0) :
    resetEvent s = { State.reset with mem := s.mem, env := s.env, deviceReads := s.deviceReads } := by
  have h : (s.ifReg &&& 0xE0) ||| ((0xE0 : Byte) &&& 0x1F) = 0xE0 := by rw [hif]; rfl
  simp only [resetEvent, State.setIF, State.setIE, h]
  rfl

/-- Settles O55: the reset values by evaluation, `Reset` by IF[7:5] of the invariant, `StopWake` by its two cases. -/
theorem resetAndStopWake : Obligations.ResetAndStopWake := by
  refine ⟨rfl, rfl, rfl, rfl, rfl, fun s hi => ?_, fun s hs => ?_, fun s hs => ?_⟩
  · obtain ⟨-, -, hif, -⟩ := hi
    exact resetEvent_eq hif
  · exact if_pos hs
  · exact if_neg (by simp [hs])

/-- Settles O56, by evaluation. -/
theorem invariantAtReset : Obligations.InvariantAtReset :=
  ⟨State.reset_mem_wf, rfl, rfl, fun h => absurd h (by decide)⟩

/-- Settles O57, over the cases of a Step. -/
theorem stepKeepsTheInvariant : Obligations.StepKeepsTheInvariant := fun _ _ => step_inv

end Sys2Proof.Machine
end

section
/-! PROOFS of the statements of 20_memory.md, part 1: the accesses on the port. Every instruction makes those of its
row of R68, in the row's order. -/

namespace Sys2Proof.Machine

/-! ### What the shared operations add to the port's record -/

@[simp] theorem aluApply_trace (op : AluOp) (v : Byte) (s : State) : (aluApply op v s).trace = s.trace := by
  rw [aluApply_eq]; split <;> simp
@[simp] theorem returnFromStack_trace (s : State) : (returnFromStack s).trace = s.pop16.2.trace := rfl
@[simp] theorem returnFromInterrupt_trace (s : State) : (returnFromInterrupt s).trace = s.pop16.2.trace := rfl

/-- From `s` to `t` the port's record grew by accesses of these directions and addresses, in this order. -/
def Accesses (as : List Access) (s t : State) : Prop :=
  ∃ l : List PortAccess, t.trace = s.trace ++ l ∧ l.map PortAccess.toAccess = as

theorem Accesses.none {s t : State} (h : t.trace = s.trace) : Accesses [] s t :=
  ⟨[], by rw [h, List.append_nil], rfl⟩

theorem Accesses.read {s t : State} {a : Word} (h : t.trace = (s.readByte a).2.trace) : Accesses [.rd a] s t :=
  ⟨_, h.trans (State.readByte_snd_trace a s), rfl⟩

theorem Accesses.write {s t : State} {a : Word} (v : Byte) (h : t.trace = (s.writeByte a v).trace) :
    Accesses [.wr a] s t := ⟨_, h.trans (State.writeByte_trace a v s), rfl⟩

theorem Accesses.write16 {s t : State} {a : Word} (v : Word) (h : t.trace = (s.write16 a v).trace) :
    Accesses [.wr a, .wr (a + 1)] s t := ⟨_, h.trans (State.write16_trace a v s), rfl⟩

theorem Accesses.push {s t : State} (v : Word) (h : t.trace = (s.push16 v).trace) :
    Accesses (pushAccesses s) s t := ⟨_, h.trans (State.push16_trace v s), rfl⟩

theorem Accesses.pop {s t : State} (h : t.trace = s.pop16.2.trace) : Accesses (popAccesses s) s t :=
  ⟨_, h.trans s.pop16_trace, rfl⟩

/-- An operand read: one access where it is in memory. -/
theorem Accesses.operandRead {s t : State} {o : Operand8} (h : t.trace = (s.readOperand o).2.trace) :
    Accesses (readsOf o s) s t := by
  cases o with
  | reg r => exact .none h
  | mHL => exact .read h

/-- An operand read and written back (46_extended.md R289): the write is at the HL of the read. -/
theorem Accesses.operandReadWrite {s t : State} {o : Operand8} (v : Byte)
    (h : t.trace = ((s.readOperand o).2.writeOperand o v).trace) : Accesses (readsWritesOf o s) s t := by
  cases o with
  | reg r => exact .none (h.trans (State.setReg_trace r v s))
  | mHL =>
    refine ⟨[.read s.hl (s.readByte s.hl).1, .write s.hl v], h.trans ?_, rfl⟩
    simp [State.readOperand, State.writeOperand]

/-! ### The accesses of an instruction -/

theorem accesses_ext (x : ExtForm) (s : State) : Accesses (extAccessRow x s) s (viaEscape (extHandler x s)) := by
  cases x with
  | rot op o =>
    exact .operandReadWrite (rotCompute op (s.readOperand o).1 (s.getFlag .carry)).1
      (by simp [viaEscape, extHandler, extRot])
  | bit b o => exact .operandRead (by simp [viaEscape, extHandler, extBit])
  | res b o =>
    exact .operandReadWrite (putBit (s.readOperand o).1 b.toNat false) (by simp [viaEscape, extHandler, extRes])
  | set b o =>
    exact .operandReadWrite (putBit (s.readOperand o).1 b.toNat true) (by simp [viaEscape, extHandler, extSet])

/-- Every instruction makes the accesses of its row of R68. -/
theorem exec_accesses {f : Form} {s t : State} (h : exec f.toInstr s = .next t) :
    Accesses (accessRow f s) s t := by
  rw [exec_toInstr] at h
  cases f with
  | invalid op => cases h
  | ext x => cases h; exact accesses_ext x s
  | escape e => rw [effectOf_escape_eq_ext] at h; cases h; exact accesses_ext (extendedForm e) s
  | ldRegMem d | ldAPtr p | ldAAbs nn | ldhAImm n | ldAIoC | ldAInc | ldADec =>
    cases h
    exact .read (by simp [doLdRegMem, loadA, doLdAPtr, doLdAAbs, doLdhAImm, doLdAIoC, doLdAInc, doLdADec])
  | ldMemReg r => cases h; exact .write (s.getReg r) (by simp [doLdMemReg])
  | ldMemImm n => cases h; exact .write n (by simp [doLdMemImm])
  | ldPtrA p | ldAbsA nn | ldhImmA n | ldIoCA | ldIncA | ldDecA =>
    cases h
    exact .write s.a (by simp [doLdPtrA, doLdAbsA, doLdhImmA, doLdIoCA, doLdIncA, doLdDecA])
  | ldAbsSP nn => cases h; exact .write16 s.sp (by simp [doLdAbsSP])
  | push rp2 => cases h; exact .push (s.getStackPair rp2) (by simp [doPush])
  | call nn | rst k => cases h; exact .push s.pc (by simp [doCall, doRst, State.callTo])
  | pop rp2 | ret | reti => cases h; exact .pop (by simp [doPop, doRet, doReti])
  | callCond cc nn =>
    cases h
    simp only [accessRow, doCallCond]
    split
    · exact .push s.pc (by simp [State.callTo])
    · exact .none rfl
  | retCond cc =>
    cases h
    simp only [accessRow, doRetCond]
    split
    · exact .pop (by simp)
    · exact .none rfl
  | jpCond cc nn | jrCond cc d =>
    cases h
    simp only [doJpCond, doJrCond]
    split <;> exact .none rfl
  | inc8 o => cases h; exact .operandReadWrite (incByte (s.readOperand o).1).1 (by simp [doInc8])
  | dec8 o => cases h; exact .operandReadWrite (decByte (s.readOperand o).1).1 (by simp [doDec8])
  | alu op o => cases h; exact .operandRead (by simp [doAlu])
  | nop | halt | stop | di | ei => cases h; exact .none rfl
  | ldRegReg d r | ldRegImm d n | ldPairImm rp nn | ldSPHL | ldHLSP d | aluImm op n | accRot k | daa | cpl | scf | ccf
  | addHL rp | addSP d | incPair rp | decPair rp | jp nn | jpHL | jr d =>
    cases h
    exact .none (by simp [doLdRegReg, doLdRegImm, doLdPairImm, doLdSPHL, doLdHLSP, doAluImm, doAccRot, doDaa, doCpl,
      doScf, doCcf, doAddHL, doAddSP, doIncPair, doDecPair, doJp, doJpHL, doJr])

/-- Settles O44, over the forms. -/
theorem accessesFollowTheTable : Obligations.AccessesFollowTheTable := fun _ _ _ => exec_accesses

end Sys2Proof.Machine
end

section
/-! Part 2: what a read and a write make of the stored bytes, and the memory frame of an instruction. -/

namespace Sys2Proof.Machine

/-- A read advances the environment at an undeclared cell alone (log 4). -/
theorem State.answer_snd (a : Word) (s : State) :
    (s.answer a).2 =
      { s with deviceReads := if s.kindAt a = .device then s.deviceReads + 1 else s.deviceReads } := by
  unfold State.answer
  cases s.kindAt a <;> rfl

/-- Settles O9: a read is the environment's answer, recorded. -/
theorem readsChangeNothingStored : Obligations.ReadsChangeNothingStored := by
  intro s a
  simp only [State.readByte, State.answer_snd, State.record]

/-- Settles O8: at a RAM cell a read is the stored byte, before a write and after it. -/
theorem ramReadsWhatWasWritten : Obligations.RamReadsWhatWasWritten := by
  intro s a b v hw ha hb
  have hram : ∀ c, s.IsRam c → (s.writeByte a v).IsRam c := fun c hc => (State.writeByte_kindAt a c v s).trans hc
  rw [State.readByte_ram (hram a ha), State.readByte_ram (hram b hb), State.readByte_ram hb]
  exact ⟨State.writeByte_peek_same v hw ha, State.writeByte_peek_other v s⟩

/-- Writes leave the stored bytes at every other address. -/
theorem Stores.peek {as : List Word} {s t : State} {b : Word} (h : Stores as s t) (hb : b ∉ as) :
    t.peek b = s.peek b := by
  induction h with
  | none h =>
    obtain ⟨hmem, -⟩ := State.storage_eq_iff.mp h
    exact State.peek_congr hmem b
  | @write a as s u t v hu _ ih =>
    obtain ⟨hmem, -⟩ := State.storage_eq_iff.mp hu
    obtain ⟨hne, hbs⟩ := List.ne_and_not_mem_of_not_mem_cons hb
    rw [ih hbs, State.peek_congr hmem, State.writeByte_peek_other v s hne]

/-- Settles O47: an instruction reaches memory through the writes of its row alone. -/
theorem otherBytesUnchanged : Obligations.OtherBytesUnchanged := fun _ _ _ _ h hb => (exec_stores h).peek hb

end Sys2Proof.Machine
end

section
/-! Part 3: the canonical form of memory (log 3) is determined by what it reads as. -/

namespace Sys2Proof.Machine

theorem Memory.wfFrom_cons {lo k : Nat} {v : Byte} {m : Memory} :
    Memory.wfFrom lo ((k, v) :: m) = true ↔
      lo ≤ k ∧ k < 65536 ∧ v ≠ Config.backgroundByte ∧ Memory.wfFrom (k + 1) m = true := by
  simp [Memory.wfFrom, and_assoc]

@[simp] theorem Memory.read_cons_same (k : Nat) (v : Byte) (m : Memory) : Memory.read ((k, v) :: m) k = v :=
  if_pos rfl

theorem Memory.read_cons_other {k a : Nat} (v : Byte) (m : Memory) (h : k ≠ a) :
    Memory.read ((k, v) :: m) a = Memory.read m a := if_neg h

/-- An address that does not read as the background is not below the first entry. -/
theorem Memory.head_le_of_read_ne {lo k a : Nat} {v : Byte} {m : Memory}
    (h : Memory.wfFrom lo ((k, v) :: m) = true) (ha : Memory.read ((k, v) :: m) a ≠ Config.backgroundByte) :
    k ≤ a := by
  by_contra hlt
  obtain ⟨-, hk, hv, hm⟩ := Memory.wfFrom_cons.mp h
  exact ha (Memory.read_below (Memory.wfFrom_cons.mpr ⟨le_rfl, hk, hv, hm⟩) (by omega))

/-- Memory that reads as the background everywhere has no entry. -/
theorem Memory.eq_nil_of_read {lo : Nat} {m : Memory} (hm : Memory.wfFrom lo m = true)
    (h : ∀ a, a < 65536 → Memory.read m a = Config.backgroundByte) : m = [] := by
  cases m with
  | nil => rfl
  | cons x m =>
    obtain ⟨k, v⟩ := x
    obtain ⟨-, hk, hv, -⟩ := Memory.wfFrom_cons.mp hm
    exact absurd ((Memory.read_cons_same k v m).symm.trans (h k hk)) hv

/-- Memories that read alike have the same first entry, and their tails read alike too. -/
theorem Memory.eq_of_read_eq {lo lo' : Nat} {m n : Memory} (hm : Memory.wfFrom lo m = true)
    (hn : Memory.wfFrom lo' n = true) (h : ∀ a, a < 65536 → Memory.read m a = Memory.read n a) : m = n := by
  induction m generalizing lo lo' n with
  | nil => exact (Memory.eq_nil_of_read hn fun a ha => (h a ha).symm).symm
  | cons x m ih =>
    obtain ⟨k, v⟩ := x
    cases n with
    | nil => exact Memory.eq_nil_of_read hm h
    | cons y n =>
      obtain ⟨j, w⟩ := y
      obtain ⟨-, hk, hv, htm⟩ := Memory.wfFrom_cons.mp hm
      obtain ⟨-, hj, hw, htn⟩ := Memory.wfFrom_cons.mp hn
      have hreadk := h k hk
      have hreadj := h j hj
      rw [Memory.read_cons_same] at hreadk hreadj
      obtain rfl : k = j := le_antisymm (Memory.head_le_of_read_ne hm (hreadj ▸ hw))
        (Memory.head_le_of_read_ne hn (hreadk ▸ hv))
      obtain rfl : v = w := hreadk.trans (Memory.read_cons_same k w n)
      have htail : ∀ a, a < 65536 → Memory.read m a = Memory.read n a := by
        intro a ha
        by_cases hle : a ≤ k
        · rw [Memory.read_below htm (by omega), Memory.read_below htn (by omega)]
        · simpa only [Memory.read_cons_other v _ (show k ≠ a by omega)] using h a ha
      rw [ih htm htn htail]

/-- Settles O10, by induction on the first memory. -/
theorem equalContentsAreEqualMemories : Obligations.EqualContentsAreEqualMemories := fun _ _ =>
  Memory.eq_of_read_eq

end Sys2Proof.Machine
end

section
/-! PROOFS of the statements of 30_encoding.md. The two tables are data: that a slot of the decoder and the rows of the
encoder agree is evaluated once, in `primarySlot_encodes` and the facts on `ExtForm.byte`; the statements follow. -/

namespace Sys2Proof

open Machine (joinBytes_hi_lo loByte_joinBytes hiByte_joinBytes loByte_eq_ofNat hiByte_eq_ofNat)

/-! ### The fields of an opcode byte (R93) -/

/-- A byte is put together from its fields. -/
theorem exists_opByte (op : Byte) : ∃ (x : Fin 4) (y z : Oct), op = opByte x y.toNat z.toNat := by
  have hfields : op = opByte (fieldX op) (fieldY op).toNat (fieldZ op).toNat := by revert op; decide
  exact ⟨⟨fieldX op, Nat.div_lt_of_lt_mul op.isLt⟩, fieldY op, fieldZ op, hfields⟩

/-- Every operand has a code (R94). -/
theorem exists_operandOrder (o : Operand8) : ∃ z, Config.operandOrder z = o := by
  cases o with
  | mHL => exact ⟨.o6, rfl⟩
  | reg r => exact ⟨Oct.ofField r.code, by cases r <;> rfl⟩

/-! ### The extended table (R106) -/

/-- The byte after the escape, from the codes of the operation or bit number and of the operand. -/
def ExtForm.byte : ExtForm → Byte
  | .rot k o => opByte 0 k.code o.code
  | .bit b o => opByte 1 b.toNat o.code
  | .res b o => opByte 2 b.toNat o.code
  | .set b o => opByte 3 b.toNat o.code

/-- The encoder's row, its well-formedness and the decoder's map, for each of the 256 extended forms by evaluation. -/
theorem ExtForm.tables_agree (x : ExtForm) :
    encode (Form.ext x).toInstr = [Config.escapeOpcode, x.byte] ∧ WellFormed (Form.ext x).toInstr = true ∧
      extendedForm x.byte = x := by
  cases x with
  | rot k o => obtain ⟨z, rfl⟩ := exists_operandOrder o; cases k <;> cases z <;> exact ⟨rfl, rfl, rfl⟩
  | bit b o | res b o | set b o =>
    obtain ⟨z, rfl⟩ := exists_operandOrder o
    cases b <;> cases z <;> exact ⟨rfl, rfl, rfl⟩

theorem encode_ext (x : ExtForm) : encode (Form.ext x).toInstr = [Config.escapeOpcode, x.byte] := by
  obtain ⟨he, -, -⟩ := x.tables_agree
  exact he

theorem byte_extendedForm (e : Byte) : (extendedForm e).byte = e := by
  revert e
  decide

/-- No extended byte is without a handler (D6). -/
theorem extendedInstr_eq (e : Byte) : extendedInstr e = (Form.ext (extendedForm e)).toInstr :=
  if_neg List.not_mem_nil

theorem extendedInstr_byte (x : ExtForm) : extendedInstr x.byte = (Form.ext x).toInstr := by
  obtain ⟨-, -, hx⟩ := x.tables_agree
  rw [extendedInstr_eq, hx]

theorem wellFormed_extendedInstr (e : Byte) : WellFormed (extendedInstr e) = true := by
  obtain ⟨-, hw, -⟩ := (extendedForm e).tables_agree
  rw [extendedInstr_eq, hw]

theorem encode_extendedInstr (e : Byte) : encode (extendedInstr e) = [Config.escapeOpcode, e] := by
  rw [extendedInstr_eq, encode_ext, byte_extendedForm]

/-! ### Well-formedness -/

theorem wellFormed_invalid {op : Byte} : WellFormed (.invalid op) = true ↔ op ∈ Config.invalidPrimary := by
  simp [WellFormed, Config.unimplPrimary]

/-! ### The primary table (R101, R102, R105) -/

/-- What the slot of the byte `op` holds is encoded as `op` and its immediates, and is well-formed. -/
def Slot.Encodes (op n : Byte) (nn : Word) : Slot → Prop
  | .op f => encode f.toInstr = [op] ∧ WellFormed f.toInstr = true
  | .opN k => encode (k n).toInstr = [op, n] ∧ WellFormed (k n).toInstr = true
  | .opNN k => encode (k nn).toInstr = [op, loByte nn, hiByte nn] ∧ WellFormed (k nn).toInstr = true
  | .pad f => encode f.toInstr = [op, 0x00] ∧ f = .stop
  | .esc => encode (.escape n) = [op, n] ∧ op = Config.escapeOpcode
  | .inv => encode (.invalid op) = [op] ∧ WellFormed (.invalid op) = true

/-- The decoder's slots agree with the encoder's rows: the 256 bytes, each by evaluation. -/
theorem primarySlot_encodes (op n : Byte) (nn : Word) : (primarySlot op).Encodes op n nn := by
  obtain ⟨x, y, z, rfl⟩ := exists_opByte op
  fin_cases x <;> cases y <;> cases z <;> exact ⟨rfl, rfl⟩

theorem Slot.encodes_of_primarySlot {op : Byte} {sl : Slot} (h : primarySlot op = sl) (n : Byte) (nn : Word) :
    sl.Encodes op n nn := h ▸ primarySlot_encodes op n nn

theorem primarySlot_eq_inv {op : Byte} : primarySlot op = .inv ↔ op ∈ Config.invalidPrimary := by
  refine ⟨fun h => ?_, fun h => if_pos (.inl h)⟩
  obtain ⟨-, hw⟩ := Slot.encodes_of_primarySlot h 0 0
  exact wellFormed_invalid.mp hw

theorem primarySlot_eq_esc {op : Byte} : primarySlot op = .esc ↔ op = Config.escapeOpcode := by
  refine ⟨fun h => ?_, by rintro rfl; rfl⟩
  obtain ⟨-, hop⟩ := Slot.encodes_of_primarySlot h 0 0
  exact hop

/-! ### decode at a slot (R92, R97) -/

section
variable {op : Byte} (rest : List Byte)

theorem decode_op {f : Form} (h : primarySlot op = .op f) : decode (op :: rest) = .ok (f.toInstr, rest) := by
  simp [decode, h]

theorem decode_opN {k : Byte → Form} (h : primarySlot op = .opN k) (n : Byte) :
    decode (op :: n :: rest) = .ok ((k n).toInstr, rest) := by
  simp [decode, h]

theorem decode_opNN {k : Word → Form} (h : primarySlot op = .opNN k) (l hi : Byte) :
    decode (op :: l :: hi :: rest) = .ok ((k (joinBytes hi l)).toInstr, rest) := by
  simp [decode, h]

theorem decode_pad {f : Form} (h : primarySlot op = .pad f) (n : Byte) :
    decode (op :: n :: rest) = .ok (f.toInstr, rest) := by
  simp [decode, h, Config.stopLength]

theorem decode_esc (h : primarySlot op = .esc) (e : Byte) :
    decode (op :: e :: rest) = .ok (extendedInstr e, rest) := by
  simp [decode, h]

theorem decode_inv (h : primarySlot op = .inv) : decode (op :: rest) = .ok (.invalid op, rest) := by
  simp [decode, h]

end

/-! ### decode of encode (R97) -/

/-- A word after byte 0 is put together again from its two bytes. -/
theorem decode_encode_opNN {k : Word → Form} {op : Byte} (nn : Word) (rest : List Byte)
    (he : encode (k nn).toInstr = [op, loByte nn, hiByte nn]) (h : primarySlot op = .opNN k) :
    decode (encode (k nn).toInstr ++ rest) = .ok ((k nn).toInstr, rest) := by
  rw [he]
  exact (decode_opNN rest h _ _).trans (by rw [joinBytes_hi_lo])

/-- Over the forms: those with an operand field by its values, the others at once. -/
theorem decode_encode_toInstr (f : Form) (rest : List Byte) (hw : WellFormed f.toInstr = true) :
    decode (encode f.toInstr ++ rest) = .ok (f.toInstr, rest) := by
  cases f with
  | escape e => cases hw
  | invalid op => exact decode_inv rest (primarySlot_eq_inv.mpr (wellFormed_invalid.mp hw))
  | ext x =>
    rw [encode_ext]
    exact (decode_esc rest rfl x.byte).trans (by rw [extendedInstr_byte])
  | ldAAbs nn | ldAbsA nn | ldAbsSP nn | jp nn | call nn => exact decode_encode_opNN nn rest rfl rfl
  | ldPairImm rp nn => cases rp <;> exact decode_encode_opNN nn rest rfl rfl
  | jpCond cc nn | callCond cc nn => cases cc <;> exact decode_encode_opNN nn rest rfl rfl
  | ldRegReg d r => cases d <;> cases r <;> rfl
  | ldRegImm r n | ldRegMem r | ldMemReg r => cases r <;> rfl
  | ldAPtr p | ldPtrA p => cases p <;> rfl
  | push rp | pop rp | addHL rp | incPair rp | decPair rp => cases rp <;> rfl
  | jrCond cc n | retCond cc => cases cc <;> rfl
  | inc8 o | dec8 o => obtain ⟨z, rfl⟩ := exists_operandOrder o; cases z <;> rfl
  | alu op o => obtain ⟨z, rfl⟩ := exists_operandOrder o; cases op <;> cases z <;> rfl
  | aluImm op n => cases op <;> rfl
  | accRot k => cases k <;> rfl
  | rst t => cases t <;> rfl
  | _ => rfl

/-- Settles O1, over the forms. -/
theorem encodedInstructionsDecode : Obligations.EncodedInstructionsDecode := fun i rest =>
  Instr.forall_of_forms (P := fun i => WellFormed i = true → decode (encode i ++ rest) = .ok (i, rest))
    (fun f => decode_encode_toInstr f rest) i

/-! ### What decode reads (R92, R104, R105) -/

/-- The bytes are those of a well-formed instruction and what follows it, but for STOP's padding (R105). -/
def Instr.Heads (i : Instr) (bytes rest : List Byte) : Prop :=
  WellFormed i = true ∧ (i ≠ .stop → encode i ++ rest = bytes) ∧
    (i = .stop → ∃ pad : Byte, 0x10 :: pad :: rest = bytes)

theorem Instr.Heads.of_encode {i : Instr} {bytes rest : List Byte} (hw : WellFormed i = true)
    (he : encode i ++ rest = bytes) : i.Heads bytes rest :=
  ⟨hw, fun _ => he, by rintro rfl; exact ⟨0x00, he⟩⟩

/-- With the bytes its slot asks for, byte 0 heads an instruction of that length. -/
theorem decode_of_length_le (op : Byte) (tail : List Byte) : (primarySlot op).length ≤ tail.length + 1 →
    ∃ i, decode (op :: tail) = .ok (i, tail.drop ((primarySlot op).length - 1)) ∧
      i.Heads (op :: tail) (tail.drop ((primarySlot op).length - 1)) := by
  cases hs : primarySlot op with
  | op f =>
    obtain ⟨he, hw⟩ := Slot.encodes_of_primarySlot hs 0 0
    exact fun _ => ⟨_, decode_op tail hs, .of_encode hw (by rw [he]; rfl)⟩
  | inv =>
    obtain ⟨he, hw⟩ := Slot.encodes_of_primarySlot hs 0 0
    exact fun _ => ⟨_, decode_inv tail hs, .of_encode hw (by rw [he]; rfl)⟩
  | opN k =>
    match tail with
    | [] => simp [Slot.length]
    | n :: rest =>
      obtain ⟨he, hw⟩ := Slot.encodes_of_primarySlot hs n 0
      exact fun _ => ⟨_, decode_opN rest hs n, .of_encode hw (by rw [he]; rfl)⟩
  | opNN k =>
    match tail with
    | [] | [_] => simp [Slot.length]
    | l :: h :: rest =>
      obtain ⟨he, hw⟩ := Slot.encodes_of_primarySlot hs 0 (joinBytes h l)
      rw [loByte_joinBytes, hiByte_joinBytes] at he
      exact fun _ => ⟨_, decode_opNN rest hs l h, .of_encode hw (by rw [he]; rfl)⟩
  | pad f =>
    match tail with
    | [] => simp [Slot.length, Config.stopLength]
    | n :: rest =>
      obtain ⟨he, rfl⟩ := Slot.encodes_of_primarySlot hs 0 0
      obtain ⟨rfl, -⟩ := List.cons.inj he
      exact fun _ => ⟨_, decode_pad rest hs n, rfl, fun hne => absurd rfl hne, fun _ => ⟨n, rfl⟩⟩
  | esc =>
    match tail with
    | [] => simp [Slot.length]
    | e :: rest =>
      obtain rfl := primarySlot_eq_esc.mp hs
      exact fun _ => ⟨_, decode_esc rest hs e,
        .of_encode (wellFormed_extendedInstr e) (by rw [encode_extendedInstr]; rfl)⟩

/-- With fewer bytes than its slot asks for, byte 0 is no instruction. -/
theorem decode_of_lt_length (op : Byte) (tail : List Byte) : tail.length + 1 < (primarySlot op).length →
    decode (op :: tail) = .error .truncated := by
  cases hs : primarySlot op with
  | op f | inv => simp [Slot.length]
  | opN k | esc =>
    match tail with
    | [] => simp [decode, hs]
    | _ :: _ => simp [Slot.length]
  | pad f =>
    match tail with
    | [] => simp [decode, hs, Config.stopLength]
    | _ :: _ => simp [Slot.length, Config.stopLength]
  | opNN k =>
    match tail with
    | [] | [_] => simp [decode, hs]
    | _ :: _ :: _ => simp [Slot.length]

/-! ### The other statements -/

/-- Settles O2: decoding succeeds only where the slot's bytes are there, and then the instruction heads them. -/
theorem decodedBytesAreTheEncoding : Obligations.DecodedBytesAreTheEncoding := by
  intro bytes i rest h
  cases bytes with
  | nil => cases h
  | cons op tail =>
    by_cases hlen : (primarySlot op).length ≤ tail.length + 1
    · obtain ⟨j, hj, hheads⟩ := decode_of_length_le op tail hlen
      cases hj.symm.trans h
      exact hheads
    · rw [decode_of_lt_length op tail (by omega)] at h
      cases h

/-- Settles O5: the empty slots and the escape from their rows, the lengths from decode at each slot. -/
theorem byteZeroGivesTheLength : Obligations.ByteZeroGivesTheLength :=
  ⟨fun _ => primarySlot_eq_inv, fun _ => primarySlot_eq_esc,
    fun op rest hlen => (decode_of_length_le op rest hlen).imp fun _ ⟨h, _⟩ => h, decode_of_lt_length⟩

/-- Settles O4: each family over the values of its operand fields. -/
theorem encodingsFromTheirFields : Obligations.EncodingsFromTheirFields := by
  intro d r o rp rp2 cc op k b n nn
  rw [← loByte_eq_ofNat, ← hiByte_eq_ofNat]
  obtain ⟨z, rfl⟩ := exists_operandOrder o
  exact ⟨by cases d <;> cases r <;> rfl, by cases d <;> rfl, by cases r <;> rfl, by cases d <;> rfl,
    by cases rp <;> rfl, by cases rp <;> rfl, by cases rp <;> rfl, by cases rp <;> rfl,
    by cases z <;> rfl, by cases z <;> rfl, by cases rp2 <;> rfl, by cases rp2 <;> rfl,
    by cases op <;> cases z <;> rfl, by cases op <;> rfl, by cases cc <;> rfl, by cases cc <;> rfl,
    by cases cc <;> rfl, by cases cc <;> rfl, by cases b <;> rfl,
    encode_ext (.rot k _), encode_ext (.bit b _), encode_ext (.res b _), encode_ext (.set b _)⟩

end Sys2Proof
end

section
/-! PROOFS of the statements of 40_load8.md. `exec_toInstr` reduces each load to the effect of its form, which is the
state its rule describes; what is left to say is how the address of an I/O page access is formed (R142 to R145). -/

namespace Sys2Proof

/-! ### Words of the spec (R101, R105, R106) -/

/-- Settles O3: each word at the slot of its byte 0. -/
theorem wordsOfTheSpecDecode : Obligations.WordsOfTheSpecDecode :=
  ⟨decode_opN (k := .ldRegImm .A) [] rfl 0x42,
    decode_opNN (k := .ldAbsSP) [] rfl 0x00 0xC1,
    decode_opN (k := .ldMemImm) [] rfl 0x99,
    decode_op (f := .alu .sbc (.reg .H)) [] rfl,
    decode_op (f := .addHL .SP) [] rfl,
    decode_opNN (k := .callCond .NC) [] rfl 0x34 0x12,
    decode_op (f := .rst .o5) [] rfl,
    decode_op (f := .pop .AF) [] rfl,
    decode_op (f := .ldAIoC) [] rfl,
    decode_op (f := .halt) [] rfl,
    decode_pad (f := .stop) [] rfl 0x55,
    decode_esc [] rfl 0x7E,
    decode_esc [] rfl 0xCB,
    decode_esc [] rfl 0x2F,
    decode_inv [] rfl⟩

namespace Machine

/-! ### Registers and immediates (R131, R132) -/

/-- Settles O11: the effects of the two forms. -/
theorem loadRegisterOrImmediate : Obligations.LoadRegisterOrImmediate := fun s d r n =>
  ⟨exec_toInstr (.ldRegReg d r) s, exec_toInstr (.ldRegImm d n) s⟩

/-! ### One access through a pointer (R133 to R141) -/

/-- Settles O12: the effects of the three forms, the read before the write to the register. -/
theorem loadAndStoreAtHL : Obligations.LoadAndStoreAtHL := fun s r n =>
  ⟨exec_toInstr (.ldRegMem r) s, exec_toInstr (.ldMemReg r) s, exec_toInstr (.ldMemImm n) s⟩

/-- Settles O13: the effects of the forms, each with one access at the pointer or the immediate. -/
theorem accumulatorThroughPointers : Obligations.AccumulatorThroughPointers := fun s nn =>
  ⟨exec_toInstr (.ldAPtr .BC) s, exec_toInstr (.ldAPtr .DE) s, exec_toInstr (.ldPtrA .BC) s,
    exec_toInstr (.ldPtrA .DE) s, exec_toInstr (.ldAAbs nn) s, exec_toInstr (.ldAbsA nn) s⟩

/-! ### The I/O page (R142 to R145) -/

/-- An address of the I/O page is known by its number: 0xFF00 + offset does not wrap (R142). -/
theorem eq_ioPage {x : Word} {offset : Byte} (h : x.toNat = 0xFF00 + offset.toNat) : x = ioPage offset := by
  unfold ioPage
  bv_omega

/-- Settles O14: the address is the one the forms compute. -/
theorem accumulatorThroughTheIoPage : Obligations.AccumulatorThroughTheIoPage := by
  intro s n x
  constructor
  · intro hx
    obtain rfl := eq_ioPage hx
    exact ⟨exec_toInstr (.ldhAImm n) s, exec_toInstr (.ldhImmA n) s⟩
  · intro hx
    obtain rfl := eq_ioPage hx
    exact ⟨exec_toInstr .ldAIoC s, exec_toInstr .ldIoCA s⟩

/-! ### HL post-modified (R146 to R149) -/

/-- Settles O15: the effects of the four forms, the access before HL is written. -/
theorem accumulatorThroughHLPostModified : Obligations.AccumulatorThroughHLPostModified := fun s =>
  ⟨exec_toInstr .ldIncA s, exec_toInstr .ldDecA s, exec_toInstr .ldAInc s, exec_toInstr .ldADec s⟩

end Machine

end Sys2Proof
end

section
/-! PROOFS of the statements of 41_load16_stack.md. `exec_toInstr` reduces each instruction to the effect of its form;
what is left are the two stack operations byte by byte, the round trip through them, and the signed displacement. -/

namespace Sys2Proof.Machine

/-! ### 16-bit loads (R161 to R163) -/

/-- Settles O16: the effects of the three forms, the stored halves of SP as numbers. -/
theorem sixteenBitLoads : Obligations.SixteenBitLoads := by
  intro s rp nn
  rw [← loByte_eq_ofNat, ← hiByte_eq_ofNat]
  exact ⟨exec_toInstr (.ldPairImm rp nn) s, exec_toInstr .ldSPHL s, exec_toInstr (.ldAbsSP nn) s⟩

/-! ### SP plus a signed displacement (R164, 43_alu16.md R221) -/

/-- Adding `sext_16(d)` modulo 65536 adds the signed value of d (R8). -/
theorem add_sext16 (w : Word) (d : Byte) : w + sext16 d = BitVec.ofInt 16 ((w.toNat : Int) + d.toInt) := by
  rw [BitVec.ofInt_add, BitVec.ofInt_natCast, BitVec.ofNat_toNat, BitVec.setWidth_eq, sext16, BitVec.signExtend]

/-- Settles O17: both forms set the flags from the low bytes and add the displacement to the old SP. -/
theorem stackPointerPlusDisplacement : Obligations.StackPointerPlusDisplacement := by
  intro s d
  simp only [← add_sext16]
  exact ⟨exec_toInstr (.ldHLSP d) s, exec_toInstr (.addSP d) s⟩

/-! ### The stack byte by byte (R170 to R173) -/

/-- `Push16` of a pair writes its first byte at SP - 1, then its second at SP - 2 (20_memory.md R65). -/
theorem State.push16_joinBytes (h l : Byte) (s : State) :
    s.push16 (joinBytes h l) =
      State.writeByte (s.sp - 2) l
        { State.writeByte (s.sp - 1) h { s with sp := s.sp - 1 } with sp := s.sp - 2 } := by
  rw [State.push16_eq, loByte_joinBytes, hiByte_joinBytes]

/-- `Pop16` reads at SP, then at SP + 1 (20_memory.md R65). -/
theorem State.pop16_eq (s : State) :
    let low := s.readByte s.sp
    let high := State.readByte (s.sp + 1) { low.2 with sp := s.sp + 1 }
    s.pop16 = (joinBytes high.1 low.1, { high.2 with sp := s.sp + 2 }) := by
  simp [State.pop16, word_add_one_add_one]

/-- The bytes a popped pair puts in its halves; F takes the second without its low nibble (R173). -/
theorem State.setStackPair_joinBytes (rp2 : StackPair) (h l : Byte) (s : State) :
    s.setStackPair rp2 (joinBytes h l) =
      match rp2 with
      | .BC => { s with b := h, c := l }
      | .DE => { s with d := h, e := l }
      | .HL => { s with h := h, l := l }
      | .AF => { s with a := h, f := l &&& 0xF0 } := by
  cases rp2 <;> simp [State.setStackPair, State.setHL, State.writeF, loByte_joinBytes, hiByte_joinBytes]

/-- Settles O18: a pair is `joinBytes` of its halves, which `Push16` writes in turn. -/
theorem pushWritesHighThenLow : Obligations.PushWritesHighThenLow := by
  intro s
  simp only [← State.push16_joinBytes]
  exact ⟨exec_toInstr (.push .BC) s, exec_toInstr (.push .DE) s, exec_toInstr (.push .HL) s,
    exec_toInstr (.push .AF) s, s.readF_eq⟩

/-- POP in terms of its two reads. -/
theorem exec_pop (rp2 : StackPair) (s : State) :
    let low := s.readByte s.sp
    let high := State.readByte (s.sp + 1) { low.2 with sp := s.sp + 1 }
    exec (Form.pop rp2).toInstr s =
      .next ((State.setStackPair rp2 (joinBytes high.1 low.1) { high.2 with sp := s.sp + 2 }).took 12) := by
  rw [exec_toInstr, effectOf, doPop, State.pop16_eq]

/-- Settles O19: the two reads of `Pop16`, and where each pair puts them. -/
theorem popReadsLowThenHigh : Obligations.PopReadsLowThenHigh := by
  intro s
  have hpop := fun rp2 => exec_pop rp2 s
  simp only [State.setStackPair_joinBytes] at hpop
  exact ⟨hpop .BC, hpop .DE, hpop .HL, hpop .AF⟩

/-! ### PUSH then POP (R174) -/

/-- A pair depends on its registers and F alone. -/
theorem State.getStackPair_congr {s t : State} (hr : ∀ r, t.getReg r = s.getReg r) (hf : t.f = s.f)
    (rp2 : StackPair) : t.getStackPair rp2 = s.getStackPair rp2 := by
  cases rp2 with
  | BC => exact congrArg₂ joinBytes (hr .B) (hr .C)
  | DE => exact congrArg₂ joinBytes (hr .D) (hr .E)
  | HL => exact congrArg₂ joinBytes (hr .H) (hr .L)
  | AF => exact congrArg₂ joinBytes (hr .A) (by rw [State.readF_eq, State.readF_eq, hf])

/-- With its padding zero, F is its top nibble (R31). -/
theorem and_top_of_padding_zero {f : Byte} (h : f &&& 0x0F = 0) : f &&& 0xF0 = f := by
  revert f; decide

/-- Writing back what a pair holds changes nothing, where F's padding is zero (R31). -/
theorem State.setStackPair_getStackPair (rp2 : StackPair) {s : State} (hf : s.f &&& 0x0F = 0) :
    s.setStackPair rp2 (s.getStackPair rp2) = s := by
  cases rp2 with
  | BC => exact State.setStackPair_joinBytes .BC s.b s.c s
  | DE => exact State.setStackPair_joinBytes .DE s.d s.e s
  | HL => exact State.setStackPair_joinBytes .HL s.h s.l s
  | AF =>
    have hF : s.readF &&& 0xF0 = s.f := by rw [State.readF_eq, and_top_of_padding_zero hf, and_top_of_padding_zero hf]
    refine (State.setStackPair_joinBytes .AF s.a s.readF s).trans ?_
    simp only [hF]

/-- `Pop16` at RAM cells gives the stored bytes. -/
theorem State.pop16_fst_ram {s : State} (hlow : s.IsRam s.sp) (hhigh : s.IsRam (s.sp + 1)) :
    s.pop16.1 = joinBytes (s.peek (s.sp + 1)) (s.peek s.sp) := by
  have hkind : State.IsRam { (s.readByte s.sp).2 with sp := s.sp + 1 } (s.sp + 1) :=
    (State.readByte_snd_kindAt s.sp (s.sp + 1) s).trans hhigh
  have hfst := (congrArg Prod.fst (State.readByte_ram hkind)).trans (State.readByte_snd_peek s.sp (s.sp + 1) s)
  rw [State.pop16_eq]
  exact congrArg₂ joinBytes hfst (congrArg Prod.fst (State.readByte_ram hlow))

/-- `Push16` leaves the two bytes on the stack, where its cells are RAM. -/
theorem State.push16_peek {s : State} (v : Word) (hw : Memory.wf s.mem = true) (hhigh : s.IsRam (s.sp - 1))
    (hlow : s.IsRam (s.sp - 2)) :
    (s.push16 v).peek (s.sp - 1) = hiByte v ∧ (s.push16 v).peek (s.sp - 2) = loByte v := by
  have hne : s.sp - 1 ≠ s.sp - 2 := by bv_omega
  have hw' := State.writeByte_wf (s.sp - 1) (hiByte v) (s := { s with sp := s.sp - 1 }) hw
  have hlow' := (State.writeByte_kindAt (s.sp - 1) (s.sp - 2) (hiByte v) { s with sp := s.sp - 1 }).trans hlow
  rw [State.push16_eq]
  constructor
  · rw [State.writeByte_peek_other _ _ hne]
    exact State.writeByte_peek_same (s := { s with sp := s.sp - 1 }) (hiByte v) hw hhigh
  · exact State.writeByte_peek_same (loByte v) hw' hlow'

/-- `Pop16` gives the word pushed in every state with the SP, memory and environment that `Push16` left, where the two
stack cells are RAM. -/
theorem State.pop16_fst_of_push16 {s t : State} (v : Word) (hw : Memory.wf s.mem = true) (hhigh : s.IsRam (s.sp - 1))
    (hlow : s.IsRam (s.sp - 2)) (hsp : t.sp = s.sp - 2) (hmem : t.mem = (s.push16 v).mem) (henv : t.env = s.env) :
    t.pop16.1 = v := by
  have hup : t.sp + 1 = s.sp - 1 := by rw [hsp]; bv_omega
  have hlow' : t.IsRam t.sp := (State.kindAt_congr henv t.sp).trans (hsp ▸ hlow)
  have hhigh' : t.IsRam (t.sp + 1) := (State.kindAt_congr henv (t.sp + 1)).trans (hup ▸ hhigh)
  obtain ⟨hhi, hlo⟩ := State.push16_peek v hw hhigh hlow
  rw [State.pop16_fst_ram hlow' hhigh', hup, hsp, State.peek_congr hmem, State.peek_congr hmem, hhi, hlo,
    joinBytes_hi_lo]

/-- POP after PUSH of the same pair writes nothing: it finds the word PUSH stored, which the pair still holds. -/
theorem doPop_doPush (rp2 : StackPair) {s : State} (hw : Memory.wf s.mem = true) (hf : s.f &&& 0x0F = 0)
    (hhigh : s.IsRam (s.sp - 1)) (hlow : s.IsRam (s.sp - 2)) :
    doPop rp2 (doPush rp2 s) = (doPush rp2 s).pop16.2.took 12 := by
  have hf' : (doPush rp2 s).pop16.2.f = s.f := by simp [doPush]
  have hheld : (doPush rp2 s).pop16.2.getStackPair rp2 = s.getStackPair rp2 :=
    State.getStackPair_congr (fun r => by simp [doPush]) hf' rp2
  have hword : (doPush rp2 s).pop16.1 = s.getStackPair rp2 :=
    State.pop16_fst_of_push16 _ hw hhigh hlow (by simp [doPush]) rfl (by simp [doPush])
  rw [doPop, hword, ← hheld, State.setStackPair_getStackPair rp2 (by rw [hf', hf])]

/-- Settles O39: PUSH and POP together move SP down and up by two, and write no register. -/
theorem pushThenPopRestores : Obligations.PushThenPopRestores := by
  intro s rp2 ⟨hw, hf, _⟩ hhigh hlow
  refine ⟨doPush rp2 s, doPop rp2 (doPush rp2 s), exec_toInstr (.push rp2) s, exec_toInstr (.pop rp2) _, ?_⟩
  rw [doPop_doPush rp2 hw hf hhigh hlow]
  refine ⟨fun r => ?_, ?_, ?_, ?_⟩ <;> simp [doPush]

end Sys2Proof.Machine
end

section
/-! PROOFS of the statements of 42_alu8.md. `exec_toInstr` reduces each instruction to the effect of its form; what is
left is that the bytes and flags the effects compute on bit vectors are those of the rules' arithmetic on numbers, and,
for R184, how INC and DEC act on a register's value and on each flag. -/

namespace Sys2Proof.Machine

/-! ### Bytes as numbers -/

/-- The Zero of a result is a test of its number. -/
theorem byte_beq_zero (w : Byte) : (w == 0) = decide (w.toNat = 0) :=
  (Bool.beq_eq_decide_eq w 0).trans (decide_eq_decide.mpr BitVec.toNat_eq)

/-- A byte holds a number modulo 256. -/
theorem ofNat_mod_byte (n : Nat) : BitVec.ofNat 8 (n % 256) = BitVec.ofNat 8 n :=
  BitVec.eq_of_toNat_eq (by simp)

theorem ofNat_byte_beq_zero (n : Nat) : (BitVec.ofNat 8 n == 0) = decide (n % 256 = 0) := by
  rw [byte_beq_zero, BitVec.toNat_ofNat]

theorem ofInt_byte_beq_zero (n : Int) : (BitVec.ofInt 8 n == 0) = decide (n % 256 = 0) := by
  rw [byte_beq_zero, BitVec.toNat_ofInt]
  exact decide_eq_decide.mpr (by omega)

/-! ### INC and DEC (R180 to R184) -/

theorem byte_add_one (v : Byte) : v + 1 = BitVec.ofNat 8 ((v.toNat + 1) % 256) := by bv_omega

theorem byte_sub_one (v : Byte) : v - 1 = BitVec.ofNat 8 ((v.toNat + 255) % 256) := by bv_omega

/-- Settles O20: result and Zero as numbers. -/
theorem incrementAndDecrementByte : Obligations.IncrementAndDecrementByte := by
  intro s o
  simp only [← byte_add_one, ← byte_sub_one, ← byte_beq_zero]
  exact ⟨exec_toInstr (.inc8 o) s, exec_toInstr (.dec8 o) s⟩

theorem doInc8_reg_getReg (r q : Reg8) (s : State) :
    (doInc8 (.reg r) s).getReg q = if q = r then s.getReg r + 1 else s.getReg q := by
  simp [doInc8, incByte, State.readOperand, State.writeOperand, State.getReg_setReg]

theorem doDec8_reg_getReg (r q : Reg8) (s : State) :
    (doDec8 (.reg r) s).getReg q = if q = r then s.getReg r - 1 else s.getReg q := by
  simp [doDec8, decByte, State.readOperand, State.writeOperand, State.getReg_setReg]

/-- The flags after INC: three from the old operand, Carry as it was (R180). -/
theorem doInc8_getFlag (o : Operand8) (s : State) (fl : Flag) :
    (doInc8 o s).getFlag fl =
      match fl with
      | .zero => (s.readOperand o).1 + 1 == 0
      | .subtract => false
      | .halfCarry => decide ((s.readOperand o).1.toNat % 16 = 0xF)
      | .carry => s.getFlag .carry := by
  cases fl <;> simp [doInc8, incByte, State.getFlag_setFlag]

/-- The flags after DEC: three from the old operand, Carry as it was (R182). -/
theorem doDec8_getFlag (o : Operand8) (s : State) (fl : Flag) :
    (doDec8 o s).getFlag fl =
      match fl with
      | .zero => (s.readOperand o).1 - 1 == 0
      | .subtract => true
      | .halfCarry => decide ((s.readOperand o).1.toNat % 16 = 0x0)
      | .carry => s.getFlag .carry := by
  cases fl <;> simp [doDec8, decByte, State.getFlag_setFlag]

/-- The low nibble carries out of INC exactly when it comes back to 0. -/
theorem lowNibble_add_one (v : Byte) : (v + 1).toNat % 16 = 0x0 ↔ v.toNat % 16 = 0xF := by bv_omega

theorem lowNibble_sub_one (v : Byte) : (v - 1).toNat % 16 = 0xF ↔ v.toNat % 16 = 0x0 := by bv_omega

/-- Settles O41: the second instruction reads the value between, one more or one less than the old one. -/
theorem incrementThenDecrementRestores : Obligations.IncrementThenDecrementRestores := by
  intro s r v
  constructor
  · have hbetween : ((doInc8 (.reg r) s).readOperand (.reg r)).1 = s.getReg r + 1 := by
      simp [State.readOperand, doInc8_reg_getReg]
    refine ⟨doInc8 (.reg r) s, doDec8 (.reg r) (doInc8 (.reg r) s), exec_toInstr (.inc8 (.reg r)) s,
      exec_toInstr (.dec8 (.reg r)) _, fun q => ?_, ?_, ?_, ?_, ?_⟩
    · simp only [doDec8_reg_getReg, doInc8_reg_getReg]
      split <;> simp [*]
    · simp only [doDec8_getFlag, hbetween, BitVec.add_sub_cancel]
      exact byte_beq_zero (s.getReg r)
    · exact doDec8_getFlag _ _ .subtract
    · simp only [doDec8_getFlag, hbetween]
      exact decide_eq_decide.mpr (lowNibble_add_one (s.getReg r))
    · simp only [doDec8_getFlag, doInc8_getFlag]
  · have hbetween : ((doDec8 (.reg r) s).readOperand (.reg r)).1 = s.getReg r - 1 := by
      simp [State.readOperand, doDec8_reg_getReg]
    refine ⟨doDec8 (.reg r) s, doInc8 (.reg r) (doDec8 (.reg r) s), exec_toInstr (.dec8 (.reg r)) s,
      exec_toInstr (.inc8 (.reg r)) _, fun q => ?_, ?_, ?_, ?_, ?_⟩
    · simp only [doInc8_reg_getReg, doDec8_reg_getReg]
      split <;> simp [*]
    · simp only [doInc8_getFlag, hbetween, BitVec.sub_add_cancel]
      exact byte_beq_zero (s.getReg r)
    · exact doInc8_getFlag _ _ .subtract
    · simp only [doInc8_getFlag, hbetween]
      exact decide_eq_decide.mpr (lowNibble_sub_one (s.getReg r))
    · simp only [doInc8_getFlag, doDec8_getFlag]

/-! ### The accumulator operations (R185 to R193) -/

theorem State.readOperand_snd_a (o : Operand8) (s : State) : (s.readOperand o).2.a = s.a :=
  State.readOperand_snd_getReg o .A s

/-- `alu r` and `alu (HL)` do their operation after the operand's read (R185). -/
theorem exec_alu {op : AluOp} {o : Operand8} {s t : State}
    (h : aluApply op (s.readOperand o).1 (s.readOperand o).2 = t) :
    exec (Form.alu op o).toInstr s = .next { t with cycles := costOf o 4 8 } :=
  h ▸ exec_toInstr (.alu op o) s

/-- `alu n` does its operation on the immediate (R185). -/
theorem exec_aluImm {op : AluOp} {n : Byte} {s t : State} (h : aluApply op n s = t) :
    exec (Form.aluImm op n).toInstr s = .next { t with cycles := 8 } :=
  h ▸ exec_toInstr (.aluImm op n) s

theorem addBytes_eq (a v : Byte) (cin : Bool) :
    let t := a.toNat + v.toNat + bit01 cin
    addBytes a v cin =
      { w := BitVec.ofNat 8 (t % 256), z := decide (t % 256 = 0), n := false,
        h := decide (a.toNat % 16 + v.toNat % 16 + bit01 cin > 0xF), c := decide (t > 0xFF) } := by
  simp only [addBytes, ofNat_byte_beq_zero, ofNat_mod_byte]

theorem aluApply_add (v : Byte) (s : State) : aluApply .add v s = afterSum s.a v 0 s := by
  simp only [aluApply, aluCompute, addBytes_eq]; rfl

theorem aluApply_adc (v : Byte) (s : State) :
    aluApply .adc v s = afterSum s.a v (bit01 (s.getFlag .carry)) s := by
  simp only [aluApply, aluCompute, addBytes_eq]; rfl

theorem subBytes_eq (a v : Byte) (cin : Bool) :
    let t : Int := (a.toNat : Int) - v.toNat - bit01 cin
    subBytes a v cin =
      { w := BitVec.ofInt 8 t, z := decide (t % 256 = 0), n := true,
        h := decide (a.toNat % 16 < v.toNat % 16 + bit01 cin),
        c := decide (a.toNat < v.toNat + bit01 cin) } := by
  simp only [subBytes, ofInt_byte_beq_zero]

theorem aluApply_sub (v : Byte) (s : State) : aluApply .sub v s = afterDifference s.a v 0 s := by
  simp only [aluApply, aluCompute, subBytes_eq]; rfl

theorem aluApply_sbc (v : Byte) (s : State) :
    aluApply .sbc v s = afterDifference s.a v (bit01 (s.getFlag .carry)) s := by
  simp only [aluApply, aluCompute, subBytes_eq]; rfl

theorem aluApply_cp (v : Byte) (s : State) : aluApply .cp v s = flagsAfterDifference s.a v 0 s := by
  simp only [aluApply, aluCompute, subBytes_eq]; rfl

theorem aluApply_and (v : Byte) (s : State) : aluApply .and v s = afterLogic (s.a &&& v) true s := by
  simp only [aluApply, aluCompute, logicOut, byte_beq_zero]; rfl

theorem aluApply_xor (v : Byte) (s : State) : aluApply .xor v s = afterLogic (s.a ^^^ v) false s := by
  simp only [aluApply, aluCompute, logicOut, byte_beq_zero]; rfl

theorem aluApply_or (v : Byte) (s : State) : aluApply .or v s = afterLogic (s.a ||| v) false s := by
  simp only [aluApply, aluCompute, logicOut, byte_beq_zero]; rfl

/-- Settles O21: the read of the operand leaves A and Carry. -/
theorem addWithAndWithoutCarry : Obligations.AddWithAndWithoutCarry := by
  intro s o n
  have hadd := aluApply_add (s.readOperand o).1 (s.readOperand o).2
  have hadc := aluApply_adc (s.readOperand o).1 (s.readOperand o).2
  rw [State.readOperand_snd_a] at hadd hadc
  rw [State.readOperand_snd_getFlag] at hadc
  exact ⟨exec_alu hadd, exec_aluImm (aluApply_add n s), exec_alu hadc, exec_aluImm (aluApply_adc n s)⟩

/-- Settles O22: the read of the operand leaves A and Carry. -/
theorem subtractAndCompare : Obligations.SubtractAndCompare := by
  intro s o n
  have hsub := aluApply_sub (s.readOperand o).1 (s.readOperand o).2
  have hsbc := aluApply_sbc (s.readOperand o).1 (s.readOperand o).2
  have hcp := aluApply_cp (s.readOperand o).1 (s.readOperand o).2
  rw [State.readOperand_snd_a] at hsub hsbc hcp
  rw [State.readOperand_snd_getFlag] at hsbc
  exact ⟨exec_alu hsub, exec_aluImm (aluApply_sub n s), exec_alu hsbc, exec_aluImm (aluApply_sbc n s),
    exec_alu hcp, exec_aluImm (aluApply_cp n s)⟩

/-- Settles O23: the read of the operand leaves A. -/
theorem logicalOperations : Obligations.LogicalOperations := by
  intro s o n
  have hand := aluApply_and (s.readOperand o).1 (s.readOperand o).2
  have hxor := aluApply_xor (s.readOperand o).1 (s.readOperand o).2
  have hor := aluApply_or (s.readOperand o).1 (s.readOperand o).2
  rw [State.readOperand_snd_a] at hand hxor hor
  exact ⟨exec_alu hand, exec_aluImm (aluApply_and n s), exec_alu hxor, exec_aluImm (aluApply_xor n s),
    exec_alu hor, exec_aluImm (aluApply_or n s)⟩

/-! ### The bits moved by a rotate or a shift -/

theorem getLsbD_zero_eq (v : Byte) : v.getLsbD 0 = decide (v.toNat % 2 = 1) := by
  rw [BitVec.getLsbD, Nat.testBit_zero]

theorem getLsbD_seven_eq (v : Byte) : v.getLsbD 7 = decide (v.toNat / 128 = 1) := by
  rw [BitVec.getLsbD, Nat.testBit_eq_decide_div_mod_eq]
  exact decide_eq_decide.mpr (by have := v.isLt; omega)

theorem bit01_lowest_bit (n : Nat) : bit01 (decide (n % 2 = 1)) = n % 2 := by
  simp only [bit01, decide_eq_true_eq]
  split <;> omega

theorem bit01_top_bit (v : Byte) : bit01 (decide (v.toNat / 128 = 1)) = v.toNat / 128 := by
  have := v.isLt
  simp only [bit01, decide_eq_true_eq]
  split <;> omega

theorem toNat_lowBit (b : Bool) : (lowBit b).toNat = bit01 b := by cases b <;> rfl

theorem toNat_highBit (b : Bool) : (highBit b).toNat = bit01 b * 128 := by cases b <;> rfl

theorem getElem_lowBit (b : Bool) {i : Nat} (hi : i < 8) : (lowBit b)[i] = (decide (i = 0) && b) := by
  cases b <;> simp [lowBit]

theorem getElem_highBit (b : Bool) {i : Nat} (hi : i < 8) : (highBit b)[i] = (decide (i = 7) && b) := by
  cases b
  · simp [highBit]
  · have htop : highBit true = BitVec.twoPow 8 7 := rfl
    simp [htop]

theorem and_top_bit_eq_highBit (v : Byte) : v &&& 0x80 = highBit (v.getLsbD 7) := BitVec.and_twoPow v 7

/-- A bit moved in at the bottom adds its value: the shifted byte leaves the place free. -/
theorem shiftLeft_one_or_lowBit (v : Byte) (b : Bool) :
    v <<< 1 ||| lowBit b = BitVec.ofNat 8 (v.toNat * 2 % 256 + bit01 b) := by
  have hdisjoint : v <<< 1 &&& lowBit b = 0 := by
    ext i hi
    simp +contextual [getElem_lowBit]
  rw [← BitVec.add_eq_or_of_and_eq_zero _ _ hdisjoint, ← toNat_lowBit]
  bv_omega

/-- A bit moved in at the top adds its value: the shifted byte leaves the place free. -/
theorem ushiftRight_one_or_highBit (v : Byte) (b : Bool) :
    v >>> 1 ||| highBit b = BitVec.ofNat 8 (v.toNat / 2 + bit01 b * 128) := by
  have hdisjoint : v >>> 1 &&& highBit b = 0 := by
    ext i hi
    rw [BitVec.getElem_and, BitVec.getElem_ushiftRight, getElem_highBit]
    rcases eq_or_ne i 7 with rfl | hne
    · simp
    · simp [hne]
  rw [← BitVec.add_eq_or_of_and_eq_zero _ _ hdisjoint, ← toNat_highBit]
  bv_omega

/-- The exchanged nibbles add: each leaves the other's place free. -/
theorem shiftLeft_four_or_ushiftRight_four (v : Byte) :
    v <<< 4 ||| v >>> 4 = BitVec.ofNat 8 (v.toNat * 16 % 256 + v.toNat / 16) := by
  have hdisjoint : v <<< 4 &&& v >>> 4 = 0 := by
    ext i hi
    rw [BitVec.getElem_and, BitVec.getElem_shiftLeft, BitVec.getElem_ushiftRight]
    rcases Nat.lt_or_ge i 4 with hlt | hge
    · simp [hlt]
    · simp [BitVec.getLsbD_of_ge v (4 + i) (by omega)]
  rw [← BitVec.add_eq_or_of_and_eq_zero _ _ hdisjoint]
  bv_omega

/-- A rotate, a shift or SWAP as its rule writes it on numbers (46_extended.md R290 to R297). -/
theorem rotCompute_eq (op : RotOp) (v : Byte) (c : Bool) :
    rotCompute op v c = (BitVec.ofNat 8 (rotatedNat op v.toNat (bit01 c)), rotatedOut op v.toNat) := by
  cases op with
  | rlc | rl =>
    simp only [rotCompute, rotatedNat, rotatedOut, shiftLeft_one_or_lowBit, getLsbD_seven_eq, bit01_top_bit]
  | rrc | rr =>
    simp only [rotCompute, rotatedNat, rotatedOut, ushiftRight_one_or_highBit, getLsbD_zero_eq, bit01_lowest_bit]
  | sla =>
    have hshift : v <<< 1 = BitVec.ofNat 8 (v.toNat * 2 % 256) := by bv_omega
    simp only [rotCompute, rotatedNat, rotatedOut, hshift, getLsbD_seven_eq]
  | sra =>
    simp only [rotCompute, rotatedNat, rotatedOut, and_top_bit_eq_highBit, ushiftRight_one_or_highBit,
      getLsbD_seven_eq, bit01_top_bit, getLsbD_zero_eq]
  | swap => simp only [rotCompute, rotatedNat, rotatedOut, shiftLeft_four_or_ushiftRight_four]
  | srl =>
    have hshift : v >>> 1 = BitVec.ofNat 8 (v.toNat / 2) := by bv_omega
    simp only [rotCompute, rotatedNat, rotatedOut, hshift, getLsbD_zero_eq]

/-! ### The accumulator rotates (R200 to R203) -/

theorem accRotCompute_eq_rotCompute (k : AccRot) (v : Byte) (c : Bool) :
    accRotCompute k v c = rotCompute k.asRot v c := by
  cases k <;> rfl

/-- Settles O24: the extended rotate of the same name, on A. -/
theorem accumulatorRotates : Obligations.AccumulatorRotates := by
  intro s k
  rw [exec_toInstr, effectOf, doAccRot, accRotCompute_eq_rotCompute, rotCompute_eq]
  rfl

/-! ### DAA (R205) -/

/-- A correction taken from a byte wraps: 512 added first keeps the number from going below 0. -/
theorem ofInt_byte_sub (a : Byte) {k : Nat} (hk : k ≤ 512) :
    BitVec.ofInt 8 ((a.toNat : Int) - k) = BitVec.ofNat 8 (a.toNat + 512 - k) := by
  apply BitVec.eq_of_toNat_eq
  simp only [BitVec.toNat_ofInt, BitVec.toNat_ofNat]
  omega

/-- DAA's result and Carry as its rule writes them on numbers. -/
theorem daaAdjust_eq (a : Byte) (n h c : Bool) :
    daaAdjust a n h c = (BitVec.ofNat 8 (daaNat a.toNat n h c), daaCarry a.toNat n c) := by
  cases n with
  | false => simp [daaAdjust, daaNat, daaCarry, ofNat_mod_byte]
  | true =>
    refine Prod.ext ?_ (by simp [daaAdjust, daaCarry])
    rw [daaNat, if_neg (by decide), ofNat_mod_byte]
    cases h <;> cases c
    · exact ofInt_byte_sub a (k := 0) (by decide)
    · exact ofInt_byte_sub a (k := 0x60) (by decide)
    · exact ofInt_byte_sub a (k := 0x06) (by decide)
    · exact ofInt_byte_sub a (k := 0x66) (by decide)

/-- Settles O25: DAA's adjustment as numbers, and Zero from its result. -/
theorem decimalAdjust : Obligations.DecimalAdjust := by
  intro s
  simp only [← byte_beq_zero]
  refine (exec_toInstr .daa s).trans ?_
  rw [effectOf, doDaa, daaAdjust_eq]
  rfl

/-! ### CPL, SCF and CCF (R206 to R208) -/

theorem byte_complement (a : Byte) : ~~~a = BitVec.ofNat 8 (0xFF - a.toNat) := by bv_omega

/-- The bits of a byte with one bit written. -/
theorem getLsbD_putBit (v : Byte) {n i : Nat} (hi : i < 8) (x : Bool) :
    (putBit v n x).getLsbD i = if i = n then x else v.getLsbD i := by
  have hone : 1#8 <<< n = BitVec.twoPow 8 n := rfl
  by_cases h : i = n
  · subst h
    cases x <;> simp [putBit, hone, hi]
  · cases x <;> simp [putBit, hone, hi, h]

theorem putBit_comm (v : Byte) {n m : Nat} (hne : n ≠ m) (x y : Bool) :
    putBit (putBit v n x) m y = putBit (putBit v m y) n x := by
  apply BitVec.eq_of_getLsbD_eq
  intro i hi
  simp only [getLsbD_putBit _ hi]
  by_cases h : i = n
  · simp [h, hne]
  · simp [h]

theorem putBit_getLsbD (v : Byte) (n : Nat) : putBit v n (v.getLsbD n) = v := by
  apply BitVec.eq_of_getLsbD_eq
  intro i hi
  rw [getLsbD_putBit _ hi]
  split <;> simp [*]

theorem flagBit_injective : Function.Injective Config.flagBit := by
  intro fl gl h
  cases fl <;> cases gl <;> cases h <;> rfl

/-- Each flag is a bit of its own, so two flags may be written in either order. -/
theorem State.setFlag_comm {fl gl : Flag} (hne : fl ≠ gl) (x y : Bool) (s : State) :
    (s.setFlag fl x).setFlag gl y = (s.setFlag gl y).setFlag fl x := by
  unfold State.setFlag
  rw [putBit_comm s.f (flagBit_injective.ne hne)]

theorem State.setFlag_getFlag (fl : Flag) (s : State) : s.setFlag fl (s.getFlag fl) = s := by
  unfold State.setFlag State.getFlag
  rw [putBit_getLsbD]

/-- Zero written with its own value, the others in the table's order, is Carry written before the other two. -/
theorem State.setFlags_getFlag_zero (n h c : Bool) (s : State) :
    s.setFlags (s.getFlag .zero) n h c = ((s.setFlag .carry c).setFlag .subtract n).setFlag .halfCarry h := by
  rw [State.setFlags, State.setFlag_getFlag, State.setFlag_comm (fl := .halfCarry) (gl := .carry) (by decide),
    State.setFlag_comm (fl := .subtract) (gl := .carry) (by decide)]

/-- Settles O26: A as a number, and the order in which the flags are written. -/
theorem complementAndCarryControl : Obligations.ComplementAndCarryControl := by
  intro s
  simp only [← byte_complement, State.setFlags_getFlag_zero]
  exact ⟨exec_toInstr .cpl s, exec_toInstr .scf s, exec_toInstr .ccf s⟩

end Sys2Proof.Machine
end

section
/-! PROOFS of the statements of 43_alu16.md. `exec_toInstr` reduces each instruction to the effect of its form; what is
left is the arithmetic of the rules on numbers, and that ADD HL keeps Zero by not writing it. -/

namespace Sys2Proof.Machine

/-! ### Words as numbers -/

theorem word_add_one (w : Word) : w + 1 = BitVec.ofNat 16 ((w.toNat + 1) % 65536) := by bv_omega

theorem word_sub_one (w : Word) : w - 1 = BitVec.ofNat 16 ((w.toNat + 65535) % 65536) := by bv_omega

/-- A word holds a number modulo 65536. -/
theorem ofNat_mod_word (n : Nat) : BitVec.ofNat 16 (n % 65536) = BitVec.ofNat 16 n :=
  BitVec.eq_of_toNat_eq (by simp)

/-! ### ADD HL,rp, INC rp and DEC rp (R220, R222, R223) -/

/-- Zero written with its own value is Zero not written. -/
theorem State.setFlags_keep_zero (n h c : Bool) (s : State) :
    s.setFlags (s.getFlag .zero) n h c = ((s.setFlag .subtract n).setFlag .halfCarry h).setFlag .carry c := by
  rw [State.setFlags, State.setFlag_getFlag]

/-- Settles O27: the results as numbers, and the Zero that ADD HL does not write. -/
theorem pairArithmetic : Obligations.PairArithmetic := by
  intro s rp
  simp only [← word_add_one, ← word_sub_one, State.setFlags_keep_zero]
  refine ⟨(exec_toInstr (.addHL rp) s).trans ?_, exec_toInstr (.incPair rp) s, exec_toInstr (.decPair rp) s⟩
  rw [effectOf, doAddHL, addWords, ofNat_mod_word]
  rfl

end Sys2Proof.Machine
end

section
/-! PROOFS of the statements of 44_control_transfer.md. `exec_toInstr` reduces each instruction to the effect of its form;
what is left are the two branches of a condition, the stack byte by byte, and the round trip of the pushed address. -/

namespace Sys2Proof.Machine

/-! ### Conditions (R12) -/

/-- A conditional form has the effect of the branch its condition picks. -/
theorem exec_of_cond {f : Form} {cc : Cond} {s taken untaken : State}
    (hf : effectOf f s = .next (if s.cond cc then taken else untaken)) :
    (s.cond cc = true → exec f.toInstr s = .next taken) ∧ (s.cond cc = false → exec f.toInstr s = .next untaken) := by
  rw [exec_toInstr, hf]
  exact ⟨fun hc => by rw [if_pos hc], fun hc => by rw [if_neg (ne_true_of_eq_false hc)]⟩

/-! ### Jumps (R241 to R245) -/

/-- Settles O28: the effects of the three forms, JP cc,nn by the branches of its condition. -/
theorem absoluteJumps : Obligations.AbsoluteJumps := by
  intro s cc nn
  obtain ⟨taken, untaken⟩ := exec_of_cond (f := .jpCond cc nn) (s := s) rfl
  exact ⟨exec_toInstr (.jp nn) s, taken, untaken, exec_toInstr .jpHL s⟩

/-- Settles O29: the target is PC plus the sign-extended displacement; the four conditions are their definition. -/
theorem relativeJumps : Obligations.RelativeJumps := by
  intro s cc d
  simp only [← add_sext16]
  obtain ⟨taken, untaken⟩ := exec_of_cond (f := .jrCond cc d) (s := s) rfl
  exact ⟨exec_toInstr (.jr d) s, taken, untaken, rfl, rfl, rfl, rfl⟩

/-! ### Calls (R246, R247, R251) -/

/-- Settles O30: the pushed bytes are the halves of PC, which `Push16` writes in turn. -/
theorem callsPushTheNextAddress : Obligations.CallsPushTheNextAddress := by
  intro s cc nn t
  simp only [← hiByte_eq_ofNat, ← loByte_eq_ofNat, ← State.push16_eq]
  obtain ⟨taken, untaken⟩ := exec_of_cond (f := .callCond cc nn) (s := s) rfl
  exact ⟨exec_toInstr (.call nn) s, taken, untaken, exec_toInstr (.rst t) s⟩

/-! ### Returns (R248 to R250) -/

theorem joinBytes_eq_ofNat (h l : Byte) : joinBytes h l = BitVec.ofNat 16 (h.toNat * 256 + l.toNat) := by
  rw [← toNat_joinBytes, BitVec.ofNat_toNat, BitVec.setWidth_eq]

/-- The return in terms of its two reads: PC is the pair read at SP and SP + 1. -/
theorem returnFromStack_eq (s : State) :
    let low := s.readByte s.sp
    let high := State.readByte (s.sp + 1) { low.2 with sp := s.sp + 1 }
    returnFromStack s =
      { high.2 with sp := s.sp + 2, pc := BitVec.ofNat 16 (high.1.toNat * 256 + low.1.toNat) } := by
  simp only [returnFromStack, State.pop16_eq, joinBytes_eq_ofNat]

@[simp] theorem returnFromStack_pc (s : State) : (returnFromStack s).pc = s.pop16.1 := rfl
@[simp] theorem returnFromStack_sp (s : State) : (returnFromStack s).sp = s.sp + 2 := by simp [returnFromStack]

/-- Settles O31: both forms return by the two reads of `Pop16`. -/
theorem returnsPopTheAddress : Obligations.ReturnsPopTheAddress := by
  intro s cc
  have hret := exec_toInstr .ret s
  obtain ⟨taken, untaken⟩ := exec_of_cond (f := .retCond cc) (s := s) rfl
  rw [effectOf, doRet, returnFromStack_eq] at hret
  rw [returnFromStack_eq] at taken
  exact ⟨hret, taken, untaken⟩

/-- Settles O32: the effect of RETI is that of RET, with IME set. -/
theorem returnFromInterruptSetsIme : Obligations.ReturnFromInterruptSetsIme := by
  intro s t ht
  obtain rfl : doRet s = t := Host.Outcome.next.inj ((exec_toInstr .ret s).symm.trans ht)
  exact exec_toInstr .reti s

/-! ### A call, then RET (R252) -/

/-- RET after a call finds the pushed PC, and SP is back up by two, where the two stack cells are RAM. -/
theorem doRet_after_callTo (target : Word) (k : Nat) {s : State} (hw : Memory.wf s.mem = true)
    (hhigh : s.IsRam (s.sp - 1)) (hlow : s.IsRam (s.sp - 2)) :
    (doRet ((s.callTo target).took k)).pc = s.pc ∧ (doRet ((s.callTo target).took k)).sp = s.sp := by
  constructor
  · rw [doRet, State.took_pc, returnFromStack_pc]
    exact State.pop16_fst_of_push16 s.pc hw hhigh hlow (by simp [State.callTo]) rfl (by simp [State.callTo])
  · simp [doRet, State.callTo]

/-- Settles O40: CALL and RST are the same call but for target and cycles. -/
theorem callThenReturnComesBack : Obligations.CallThenReturnComesBack := by
  intro s nn k ⟨hw, _⟩ hhigh hlow
  exact ⟨⟨doCall nn s, doRet (doCall nn s), exec_toInstr (.call nn) s, rfl, exec_toInstr .ret _,
      doRet_after_callTo nn 24 hw hhigh hlow⟩,
    ⟨doRst k s, doRet (doRst k s), exec_toInstr (.rst k) s, exec_toInstr .ret _,
      doRet_after_callTo (rstTarget k) 16 hw hhigh hlow⟩⟩

end Sys2Proof.Machine
end

section
/-! PROOFS of the statements of 45_cpu_control.md, with the instructions of 46_extended.md that the escape reaches.
`exec_toInstr` reduces each instruction to the effect of its form; what is left are the results of the extended handlers
as their rules write them, and the fetch stage at an empty slot. -/

namespace Sys2Proof.Machine

/-! ### CPU control (R270 to R274) -/

/-- Settles O33: the effects of the three forms. -/
theorem haltAndInterruptMaster : Obligations.HaltAndInterruptMaster := fun s =>
  ⟨exec_toInstr .halt s, exec_toInstr .di s, exec_toInstr .ei s⟩

/-- Settles O34: the effects of the two forms. -/
theorem nopAndStop : Obligations.NopAndStop := fun s =>
  ⟨exec_toInstr .nop s, exec_toInstr .stop s⟩

/-! ### The escape (R275) -/

/-- Every extended byte has a handler (D6), which `ExecuteExtended` runs (47_dispatch.md R322). -/
theorem executeExtended_eq (e : Byte) (s : State) :
    executeExtended e s = .next (extHandler (extendedForm e) s) :=
  if_neg List.not_mem_nil

/-- The handler's own count, without the escape's (46_extended.md R289). -/
@[simp] theorem extHandler_cycles (x : ExtForm) (s : State) : (extHandler x s).cycles = extCycleRow x := by
  cases x <;> rfl

/-- An extended instruction is its handler with the escape's 4 cycles more. -/
theorem exec_ext (x : ExtForm) (s : State) :
    exec (Form.ext x).toInstr s = .next { extHandler x s with cycles := extCycleRow x + 4 } := by
  rw [← extHandler_cycles x s]
  exact exec_toInstr (.ext x) s

theorem exec_escape (e : Byte) (s : State) :
    exec (.escape e) s = exec (Form.ext (extendedForm e)).toInstr s :=
  (exec_toInstr (.escape e) s).trans ((effectOf_escape_eq_ext e s).trans (exec_toInstr (.ext (extendedForm e)) s).symm)

/-- Settles O35: the state of `ExecuteExtended` is that of the handler of the byte's row. -/
theorem escapeRunsTheExtendedRow : Obligations.EscapeRunsTheExtendedRow := by
  intro s e
  refine ⟨extHandler (extendedForm e) s, executeExtended_eq e s, ?_, ?_, extHandler_cycles _ s⟩
  · rw [exec_escape, exec_ext, extHandler_cycles]
  · rw [extendedInstr_eq, exec_ext, extHandler_cycles]

/-! ### The extended set (46_extended.md R289 to R302) -/

/-- Settles O37: the results of the rotates and shifts as numbers. -/
theorem extendedRotatesAndShifts : Obligations.ExtendedRotatesAndShifts := by
  intro s op o v s1 w
  rw [exec_ext, extHandler, extRot, rotCompute_eq, byte_beq_zero]
  rfl

/-- Settles O38: BIT's Zero as a complement, and the bits of the byte RES and SET write back. -/
theorem bitTestClearAndSet : Obligations.BitTestClearAndSet := by
  intro s b o v s1
  rw [beq_false]
  exact ⟨exec_ext (.bit b o) s,
    ⟨putBit v b.toNat false, fun _ hj => getLsbD_putBit v hj false, exec_ext (.res b o) s⟩,
    ⟨putBit v b.toNat true, fun _ hj => getLsbD_putBit v hj true, exec_ext (.set b o) s⟩⟩

/-! ### The invalid bytes (R276, 60_exceptions.md R341) -/

/-- A Step with nothing before the fetch fetches and executes (47_dispatch.md R330). -/
theorem step_of_fetchesNext {s : State} (h : s.FetchesNext) : step s = fetchAndExecute s.clearOutputs := by
  obtain ⟨hstopped, hhalted, hserviceable⟩ := h
  simp [step, stepSequence, hstopped, hhalted, hserviceable]

/-- An instruction byte in RAM is the byte stored there. -/
theorem State.fetchByte_fst_ram {s : State} (h : s.IsRam s.pc) : s.fetchByte.1 = s.peek s.pc := by
  rw [State.fetchByte_eq, State.readByte_ram h]

/-- The fetch stage gives the instruction that faults at an empty slot (R331). -/
theorem State.fetch_fst_of_inv {s : State} (h : primarySlot s.fetchByte.1 = .inv) :
    s.fetch.1 = .invalid s.fetchByte.1 := by
  simp only [State.fetch, h]

theorem exec_invalid (op : Byte) (s : State) : exec (.invalid op) s = .fault (.invalidOpcode .primary op) :=
  exec_toInstr (.invalid op) s

theorem execute_of_inv {op : Byte} (h : primarySlot op = .inv) (immediates : List Byte) (s : State) :
    execute op immediates s = .fault (.invalidOpcode .primary op) := by
  simp only [execute, h, exec_invalid]

theorem fetchAndExecute_of_inv {s : State} (h : primarySlot s.fetchByte.1 = .inv) :
    fetchAndExecute s = .fault (.invalidOpcode .primary s.fetchByte.1) := by
  rw [fetchAndExecute, State.fetch_fst_of_inv h, exec_invalid]

/-- Settles O36: the slot of an invalid byte is empty, whether `Execute` or the fetch stage looks it up. -/
theorem invalidBytesRaiseInvalidOpcode : Obligations.InvalidBytesRaiseInvalidOpcode := by
  intro s op hop
  have hslot : primarySlot op = .inv := primarySlot_eq_inv.mpr hop
  refine ⟨exec_invalid op s, execute_of_inv hslot [] s, fun hfetch hram hpeek => ?_⟩
  have hbyte : s.clearOutputs.fetchByte.1 = op := (State.fetchByte_fst_ram (s := s.clearOutputs) hram).trans hpeek
  rw [step_of_fetchesNext hfetch, fetchAndExecute_of_inv (hbyte.symm ▸ hslot), hbyte]

end Sys2Proof.Machine
end

section
/-! PROOFS of the laws of 46_extended.md (R303). `exec_toInstr` reduces each instruction of a pair to its handler; what is
left is that one rotate takes back what the other did to the byte and Carry, and that BIT reads the bit SET or RES wrote. -/

namespace Sys2Proof

/-- A 3-bit number names a bit of a byte. -/
theorem Oct.toNat_lt (b : Oct) : b.toNat < 8 := by cases b <;> decide

namespace Machine

/-! ### A rotate taken back, on bytes (R290 to R293, R296) -/

/-- The bit moved in at the bottom is bit 0. -/
theorem getLsbD_zero_shiftLeft_one_or_lowBit (v : Byte) (b : Bool) : (v <<< 1 ||| lowBit b).getLsbD 0 = b := by
  cases b <;> simp [lowBit]

/-- A shift to the right takes back a shift to the left: the old bit 7, moved in at the top, is all it had lost. -/
theorem ushiftRight_one_shiftLeft_one_or_lowBit (v : Byte) (b : Bool) :
    (v <<< 1 ||| lowBit b) >>> 1 ||| highBit (v.getLsbD 7) = v := by
  ext i hi
  rw [BitVec.getElem_or, getElem_highBit _ hi, BitVec.getElem_ushiftRight]
  rcases eq_or_ne i 7 with rfl | hne
  · simp
  · have hin : 1 + i < 8 := by omega
    simp [hin, hne, getElem_lowBit]

/-- Each nibble moves to the other's place and back. -/
theorem swapped_nibbles_swapped (v : Byte) :
    (v <<< 4 ||| v >>> 4) <<< 4 ||| (v <<< 4 ||| v >>> 4) >>> 4 = v := by
  ext i hi
  have hlost : v.getLsbD (4 + (4 + i)) = false := BitVec.getLsbD_of_ge v _ (by omega)
  by_cases hlow : i < 4
  · have hin : 4 + i < 8 := by omega
    simp [hlost, hlow, hin]
  · have hback : 4 + (i - 4) = i := by omega
    have hin : i - 4 < 4 := by omega
    simp [hlost, hback, hin, hlow, BitVec.getLsbD_eq_getElem hi]

theorem rotCompute_rrc_rlc (v : Byte) (c d : Bool) :
    rotCompute .rrc (rotCompute .rlc v c).1 d = (v, v.getLsbD 7) := by
  simp only [rotCompute, getLsbD_zero_shiftLeft_one_or_lowBit,
    ushiftRight_one_shiftLeft_one_or_lowBit]

theorem rotCompute_rr_rl (v : Byte) (c : Bool) :
    rotCompute .rr (rotCompute .rl v c).1 (rotCompute .rl v c).2 = (v, c) := by
  simp only [rotCompute, getLsbD_zero_shiftLeft_one_or_lowBit,
    ushiftRight_one_shiftLeft_one_or_lowBit]

theorem rotCompute_swap_swap (v : Byte) (c d : Bool) :
    rotCompute .swap (rotCompute .swap v c).1 d = (v, false) := by
  simp only [rotCompute, swapped_nibbles_swapped]

/-- The other bits of a byte with one bit written, those beyond the byte too. -/
theorem getLsbD_putBit_of_ne (v : Byte) {n j : Nat} (hne : j ≠ n) (x : Bool) :
    (putBit v n x).getLsbD j = v.getLsbD j := by
  rcases Nat.lt_or_ge j 8 with hlt | hge
  · rw [getLsbD_putBit v hlt, if_neg hne]
  · rw [BitVec.getLsbD_of_ge _ j hge, BitVec.getLsbD_of_ge _ j hge]

/-! ### The handlers on a register (R289, R300 to R302) -/

@[simp] theorem viaEscape_getReg (r : Reg8) (s : State) : (viaEscape s).getReg r = s.getReg r := rfl
@[simp] theorem viaEscape_getFlag (fl : Flag) (s : State) : (viaEscape s).getFlag fl = s.getFlag fl := rfl

theorem extRot_reg_getReg (op : RotOp) (r q : Reg8) (s : State) :
    (extRot op (.reg r) s).getReg q =
      if q = r then (rotCompute op (s.getReg r) (s.getFlag .carry)).1 else s.getReg q := by
  simp [extRot, State.readOperand, State.writeOperand, State.getReg_setReg]

theorem extRot_reg_getFlag_carry (op : RotOp) (r : Reg8) (s : State) :
    (extRot op (.reg r) s).getFlag .carry = (rotCompute op (s.getReg r) (s.getFlag .carry)).2 := by
  simp [extRot, State.readOperand, State.getFlag_setFlags]

theorem extBit_reg_getFlag_zero (b : Oct) (r : Reg8) (s : State) :
    (extBit b (.reg r) s).getFlag .zero = !(s.getReg r).getLsbD b.toNat := by
  simp [extBit, State.readOperand, State.getFlag_setFlag]

theorem extBit_getReg (b : Oct) (o : Operand8) (q : Reg8) (s : State) :
    (extBit b o s).getReg q = s.getReg q := by
  simp [extBit]

theorem extRes_reg_getReg_same (b : Oct) (r : Reg8) (s : State) :
    (extRes b (.reg r) s).getReg r = putBit (s.getReg r) b.toNat false := by
  simp [extRes, State.readOperand, State.writeOperand]

theorem extSet_reg_getReg_same (b : Oct) (r : Reg8) (s : State) :
    (extSet b (.reg r) s).getReg r = putBit (s.getReg r) b.toNat true := by
  simp [extSet, State.readOperand, State.writeOperand]

/-! ### Two extended instructions, one after the other (R303) -/

/-- Two extended instructions run their handlers in turn, each through the escape. -/
theorem exists_exec_ext_ext {x y : ExtForm} {s : State} {p : State → Prop}
    (hp : p (viaEscape (extHandler y (viaEscape (extHandler x s))))) :
    ∃ t u, exec (Form.ext x).toInstr s = .next t ∧ exec (Form.ext y).toInstr t = .next u ∧ p u :=
  ⟨_, _, exec_toInstr (.ext x) s, exec_toInstr (.ext y) _, hp⟩

/-- A rotate whose computation takes back the first one's restores every register, and leaves that Carry. -/
theorem extRot_extRot_restores {op op' : RotOp} {r : Reg8} {s : State} {c : Bool}
    (hback : rotCompute op' (rotCompute op (s.getReg r) (s.getFlag .carry)).1
      (rotCompute op (s.getReg r) (s.getFlag .carry)).2 = (s.getReg r, c)) :
    let u := viaEscape (extRot op' (.reg r) (viaEscape (extRot op (.reg r) s)))
    (∀ q, u.getReg q = s.getReg q) ∧ u.getFlag .carry = c := by
  simp only [viaEscape_getReg, viaEscape_getFlag, extRot_reg_getReg, extRot_reg_getFlag_carry, if_true, hback]
  exact ⟨fun q => by split <;> simp [*], trivial⟩

/-- BIT finds the complement of the bit just written, and the other bits are as they were before the write. -/
theorem extBit_after_putBit {b : Oct} {r : Reg8} {s t : State} {x : Bool}
    (ht : t.getReg r = putBit (s.getReg r) b.toNat x) :
    let u := viaEscape (extBit b (.reg r) (viaEscape t))
    u.getFlag .zero = !x ∧ ∀ j, j ≠ b.toNat → (u.getReg r).getLsbD j = (s.getReg r).getLsbD j := by
  simp only [viaEscape_getReg, viaEscape_getFlag, extBit_reg_getFlag_zero, extBit_getReg, ht]
  exact ⟨by rw [getLsbD_putBit _ b.toNat_lt, if_pos rfl], fun j hne => getLsbD_putBit_of_ne _ hne x⟩

/-- Settles O42: SET and RES write one bit, which BIT then reads; the second rotate of each pair takes back the first. -/
theorem extendedSetLaws : Obligations.ExtendedSetLaws := fun s r b =>
  ⟨exists_exec_ext_ext (extBit_after_putBit (extSet_reg_getReg_same b r s)),
    exists_exec_ext_ext (extBit_after_putBit (extRes_reg_getReg_same b r s)),
    exists_exec_ext_ext (extRot_extRot_restores (rotCompute_swap_swap _ _ _)).1,
    exists_exec_ext_ext (extRot_extRot_restores (rotCompute_rrc_rlc _ _ _)),
    exists_exec_ext_ext (extRot_extRot_restores (rotCompute_rr_rl _ _))⟩

end Machine

end Sys2Proof
end

section
/-! PROOFS of the statements of 47_dispatch.md, part 1: what an instruction makes of `halted`, `stopped` and `ime` is all
that depends on them. Every operation on the state commutes with giving these three booleans other values. -/

namespace Sys2Proof.Machine

/-- The state with other values of `halted`, `stopped` and `ime` (10_state.md R36 to R38). -/
def State.withControl (halted stopped ime : Bool) (s : State) : State :=
  { s with halted := halted, stopped := stopped, ime := ime }

section
variable (hb sb mb : Bool) (s : State)

/-! ### What is read of a state -/

@[simp] theorem State.withControl_a : (s.withControl hb sb mb).a = s.a := rfl
@[simp] theorem State.withControl_c : (s.withControl hb sb mb).c = s.c := rfl
@[simp] theorem State.withControl_sp : (s.withControl hb sb mb).sp = s.sp := rfl
@[simp] theorem State.withControl_pc : (s.withControl hb sb mb).pc = s.pc := rfl
@[simp] theorem State.withControl_hl : (s.withControl hb sb mb).hl = s.hl := rfl
@[simp] theorem State.withControl_kindAt (x : Word) : (s.withControl hb sb mb).kindAt x = s.kindAt x := rfl
@[simp] theorem State.withControl_getReg (r : Reg8) : (s.withControl hb sb mb).getReg r = s.getReg r := by
  cases r <;> rfl
@[simp] theorem State.withControl_getPair (rp : Pair) : (s.withControl hb sb mb).getPair rp = s.getPair rp := by
  cases rp <;> rfl
@[simp] theorem State.withControl_getStackPair (rp2 : StackPair) :
    (s.withControl hb sb mb).getStackPair rp2 = s.getStackPair rp2 := by cases rp2 <;> rfl
@[simp] theorem State.withControl_getPtr (p : PtrPair) : (s.withControl hb sb mb).getPtr p = s.getPtr p := by
  cases p <;> rfl
@[simp] theorem State.withControl_getFlag (fl : Flag) : (s.withControl hb sb mb).getFlag fl = s.getFlag fl := rfl
@[simp] theorem State.withControl_cond (cc : Cond) : (s.withControl hb sb mb).cond cc = s.cond cc := by
  cases cc <;> rfl

/-! ### Updates of the registers -/

@[simp] theorem State.setFlag_withControl (fl : Flag) (x : Bool) :
    (s.withControl hb sb mb).setFlag fl x = (s.setFlag fl x).withControl hb sb mb := rfl
@[simp] theorem State.setFlags_withControl (z n h c : Bool) :
    (s.withControl hb sb mb).setFlags z n h c = (s.setFlags z n h c).withControl hb sb mb := rfl
@[simp] theorem State.setReg_withControl (r : Reg8) (v : Byte) :
    (s.withControl hb sb mb).setReg r v = (s.setReg r v).withControl hb sb mb := by cases r <;> rfl
@[simp] theorem State.setHL_withControl (v : Word) :
    (s.withControl hb sb mb).setHL v = (s.setHL v).withControl hb sb mb := rfl
@[simp] theorem State.setPair_withControl (rp : Pair) (v : Word) :
    (s.withControl hb sb mb).setPair rp v = (s.setPair rp v).withControl hb sb mb := by cases rp <;> rfl
@[simp] theorem State.setStackPair_withControl (rp2 : StackPair) (v : Word) :
    (s.withControl hb sb mb).setStackPair rp2 v = (s.setStackPair rp2 v).withControl hb sb mb := by
  cases rp2 <;> rfl
@[simp] theorem State.jumpTo_withControl (v : Word) :
    (s.withControl hb sb mb).jumpTo v = (s.jumpTo v).withControl hb sb mb := rfl
@[simp] theorem State.took_withControl (k : Nat) :
    (s.withControl hb sb mb).took k = (s.took k).withControl hb sb mb := rfl

/-! ### The port and the stack -/

/-- What the environment answers depends on its own part of the state alone (20_memory.md R62). -/
@[simp] theorem State.readByte_withControl (x : Word) :
    (s.withControl hb sb mb).readByte x = ((s.readByte x).1, (s.readByte x).2.withControl hb sb mb) := by
  simp only [State.readByte, State.answer, State.withControl_kindAt]
  cases s.kindAt x <;> rfl

@[simp] theorem State.writeByte_withControl (x : Word) (v : Byte) :
    (s.withControl hb sb mb).writeByte x v = (s.writeByte x v).withControl hb sb mb := by
  simp only [State.writeByte, State.accept, State.withControl_kindAt]
  cases s.kindAt x <;> rfl

@[simp] theorem State.write16_withControl (x v : Word) :
    (s.withControl hb sb mb).write16 x v = (s.write16 x v).withControl hb sb mb := by simp [State.write16]

/-- `Push16` in updates named above: SP is the pair SP. -/
theorem State.push16_eq_setPair (v : Word) :
    s.push16 v =
      (((s.setPair .SP (s.sp - 1)).writeByte (s.sp - 1) (hiByte v)).setPair .SP (s.sp - 2)).writeByte (s.sp - 2)
        (loByte v) := State.push16_eq v s

@[simp] theorem State.push16_withControl (v : Word) :
    (s.withControl hb sb mb).push16 v = (s.push16 v).withControl hb sb mb := by
  simp [State.push16_eq_setPair]

theorem State.pop16_eq_setPair :
    s.pop16 =
      let low := s.readByte s.sp
      let high := (low.2.setPair .SP (s.sp + 1)).readByte (s.sp + 1)
      (joinBytes high.1 low.1, high.2.setPair .SP (s.sp + 2)) := by
  simp [State.pop16, State.setPair, word_add_one_add_one]

@[simp] theorem State.pop16_withControl :
    (s.withControl hb sb mb).pop16 = (s.pop16.1, s.pop16.2.withControl hb sb mb) := by
  simp [State.pop16_eq_setPair]

/-! ### The operations on operands -/

@[simp] theorem State.readOperand_withControl (o : Operand8) :
    (s.withControl hb sb mb).readOperand o = ((s.readOperand o).1, (s.readOperand o).2.withControl hb sb mb) := by
  cases o <;> simp [State.readOperand]

@[simp] theorem State.writeOperand_withControl (o : Operand8) (v : Byte) :
    (s.withControl hb sb mb).writeOperand o v = (s.writeOperand o v).withControl hb sb mb := by
  cases o <;> simp [State.writeOperand]

@[simp] theorem aluApply_withControl (op : AluOp) (v : Byte) :
    aluApply op v (s.withControl hb sb mb) = (aluApply op v s).withControl hb sb mb := by
  cases op <;> simp [aluApply]

@[simp] theorem returnFromStack_withControl :
    returnFromStack (s.withControl hb sb mb) = (returnFromStack s).withControl hb sb mb := by
  simp only [returnFromStack, State.pop16_withControl]
  rfl

/-- RETI sets IME whatever it was (R353). -/
@[simp] theorem returnFromInterrupt_withControl :
    returnFromInterrupt (s.withControl hb sb mb) = (returnFromInterrupt s).withControl hb sb true := by
  simp only [returnFromInterrupt, returnFromStack_withControl]
  rfl

@[simp] theorem extHandler_withControl (x : ExtForm) :
    extHandler x (s.withControl hb sb mb) = (extHandler x s).withControl hb sb mb := by
  cases x <;> simp [extHandler, extRot, extBit, extRes, extSet]

@[simp] theorem viaEscape_withControl :
    viaEscape (s.withControl hb sb mb) = (viaEscape s).withControl hb sb mb := rfl

end

/-! ### An instruction -/

/-- Other values of the three booleans go through an instruction as its rows say, and change nothing else. -/
theorem exec_withControl {f : Form} {s t : State} (hb sb mb : Bool) (h : exec f.toInstr s = .next t) :
    exec f.toInstr (s.withControl hb sb mb) =
      .next (t.withControl (f.haltedAfter hb) (f.stoppedAfter sb) (f.imeAfter mb)) := by
  rw [exec_toInstr] at h ⊢
  cases f with
  | invalid op => cases h
  | escape e =>
    rw [effectOf_escape_eq_ext] at h ⊢
    cases h
    simp [effectOf, Form.haltedAfter, Form.stoppedAfter, Form.imeAfter]
  | halt | stop | di | ei => cases h; rfl
  | callCond cc nn | retCond cc | jpCond cc nn | jrCond cc d =>
    cases h
    simp only [effectOf, doCallCond, doRetCond, doJpCond, doJrCond, State.withControl_cond]
    split <;> simp [Form.haltedAfter, Form.stoppedAfter, Form.imeAfter, State.callTo]
  | _ =>
    cases h
    simp [effectOf, Form.haltedAfter, Form.stoppedAfter, Form.imeAfter, doNop, doLdRegReg, doLdRegImm, doLdRegMem,
      doLdMemReg, doLdMemImm, loadA, doLdAPtr, doLdPtrA, doLdAAbs, doLdAbsA, doLdhAImm, doLdhImmA, doLdAIoC, doLdIoCA,
      doLdIncA, doLdAInc, doLdDecA, doLdADec, doLdPairImm, doLdSPHL, doLdAbsSP, doLdHLSP, doPush, doPop, doInc8, doDec8,
      doAlu, doAluImm, doAccRot, doDaa, doCpl, doScf, doCcf, doAddHL, doAddSP, doIncPair, doDecPair, doJp, doJpHL, doJr,
      State.callTo, doCall, doRst, doRet, doReti]

/-- Settles O50, over the forms. -/
theorem executeDoesNotReadControlState : Obligations.ExecuteDoesNotReadControlState :=
  fun _ _ _ hb sb mb => exec_withControl hb sb mb

end Sys2Proof.Machine
end

section
/-! PROOFS of the statements of 47_dispatch.md, part 2: `Execute` at each slot of the primary table, and the Step. The lemmas
`decode_op` to `decode_inv` say what the decoder gives at a slot, those here what `Execute` and the fetch stage run. -/

namespace Sys2Proof.Machine

/-! ### Execute (R320) -/

/-- Where byte 0 and its immediates decode without a rest, `Execute` runs the instruction; STOP's padding byte is read by
the fetch stage and is no immediate (30_encoding.md R105). -/
theorem execute_of_decode {op : Byte} {imms : List Byte} {i : Instr} (s : State)
    (hd : decode (op :: imms) = .ok (i, [])) (hstop : i ≠ .stop) : execute op imms s = exec i s := by
  cases hs : primarySlot op with
  | inv =>
    cases (decode_inv imms hs).symm.trans hd
    simp only [execute, hs]
  | op f =>
    cases (decode_op imms hs).symm.trans hd
    simp only [execute, hs]
  | opN k =>
    match imms with
    | [] => simp [decode, hs] at hd
    | n :: imms =>
      cases (decode_opN imms hs n).symm.trans hd
      simp only [execute, hs]
  | opNN k =>
    match imms with
    | [] | [_] => simp [decode, hs] at hd
    | l :: h :: imms =>
      cases (decode_opNN imms hs l h).symm.trans hd
      simp only [execute, hs]
  | pad f =>
    match imms with
    | [] => simp [decode, hs, Config.stopLength] at hd
    | n :: imms =>
      cases (decode_pad imms hs n).symm.trans hd
      obtain ⟨-, rfl⟩ := Slot.encodes_of_primarySlot hs 0 0
      exact absurd rfl hstop
  | esc =>
    match imms with
    | [] => simp [decode, hs] at hd
    | e :: imms =>
      cases (decode_esc imms hs e).symm.trans hd
      simp only [execute, hs]
      rw [exec_escape, extendedInstr_eq]

/-- No format has three immediates (30_encoding.md R91). -/
theorem execute_of_three_le {op : Byte} {imms : List Byte} (s : State) (hs : primarySlot op ≠ .inv)
    (hlen : 3 ≤ imms.length) : execute op imms s = .refused .immediateCount := by
  match imms with
  | [] | [_] | [_, _] => simp at hlen
  | _ :: _ :: _ :: _ =>
    cases hslot : primarySlot op with
    | inv => exact absurd hslot hs
    | _ => simp only [execute, hslot]

/-- Settles O60, by the slot of the opcode. -/
theorem executeDispatchesByTheSlot : Obligations.ExecuteDispatchesByTheSlot := by
  intro s op imms rest i
  refine ⟨?_, rfl, fun hop => execute_of_three_le s (mt primarySlot_eq_inv.mp hop)⟩
  rintro hd rfl
  exact execute_of_decode s hd

/-! ### The fetch stage in RAM (R331) -/

/-- `s` with k bytes at PC read from RAM: PC past them, each read once in ascending order (20_memory.md R64). -/
def State.fetched (k : Nat) (s : State) : State :=
  { s with
    pc := s.pc + BitVec.ofNat 16 k
    trace := s.trace ++ [.read s.pc (s.peek s.pc), .read (s.pc + 1) (s.peek (s.pc + 1)),
      .read (s.pc + 2) (s.peek (s.pc + 2))].take k }

/-- An instruction byte in RAM: the byte stored there, PC one further, one read more. -/
theorem State.fetchByte_ram {s : State} (h : s.IsRam s.pc) : s.fetchByte = (s.peek s.pc, s.fetched 1) := by
  rw [State.fetchByte_eq, State.readByte_ram h]
  rfl

theorem State.fetched_one_fetchByte {s : State} (h : s.IsRam (s.pc + 1)) :
    (s.fetched 1).fetchByte = (s.peek (s.pc + 1), s.fetched 2) := by
  rw [State.fetchByte_ram (s := s.fetched 1) h]
  simp [State.fetched, State.peek, word_add_one_add_one]

theorem State.fetched_two_fetchByte {s : State} (h : s.IsRam (s.pc + 2)) :
    (s.fetched 2).fetchByte = (s.peek (s.pc + 2), s.fetched 3) := by
  rw [State.fetchByte_ram (s := s.fetched 2) h]
  simp [State.fetched, State.peek, BitVec.add_assoc]

/-- The fetch stage reads the bytes of the instruction the decoder finds at PC, and no others. -/
theorem State.fetch_of_decode {s : State} {i : Instr} {rest : List Byte} (h0 : s.IsRam s.pc)
    (h1 : s.IsRam (s.pc + 1)) (h2 : s.IsRam (s.pc + 2))
    (hd : decode [s.peek s.pc, s.peek (s.pc + 1), s.peek (s.pc + 2)] = .ok (i, rest))
    (hinv : ∀ op, i ≠ .invalid op) : s.fetch = (i, s.fetched (3 - rest.length)) := by
  have e0 := State.fetchByte_ram h0
  have e1 := State.fetched_one_fetchByte h1
  have e2 := State.fetched_two_fetchByte h2
  cases hs : primarySlot (s.peek s.pc) with
  | inv =>
    cases (decode_inv _ hs).symm.trans hd
    exact absurd rfl (hinv _)
  | op f =>
    cases (decode_op _ hs).symm.trans hd
    simp [State.fetch, e0, hs]
  | opN k =>
    cases (decode_opN _ hs _).symm.trans hd
    simp [State.fetch, e0, hs, e1]
  | opNN k =>
    cases (decode_opNN _ hs _ _).symm.trans hd
    simp [State.fetch, e0, hs, e1, e2]
  | pad f =>
    cases (decode_pad _ hs _).symm.trans hd
    simp [State.fetch, e0, hs, e1, Config.stopLength, State.skipBytes]
  | esc =>
    cases (decode_esc _ hs _).symm.trans hd
    simp [State.fetch, e0, hs, e1, Config.unimplExtended]

/-- Settles O51: in RAM the fetch stage gives what the decoder gives, from a state with the outputs cleared. -/
theorem stepRunsTheDecodedInstruction : Obligations.StepRunsTheDecodedInstruction := by
  intro s i rest hfetch h0 h1 h2 hd hinv _
  have hf : s.clearOutputs.fetch = (i, s.clearOutputs.fetched (3 - rest.length)) :=
    State.fetch_of_decode h0 h1 h2 hd hinv
  rw [step_of_fetchesNext hfetch, fetchAndExecute, hf]
  rfl

/-! ### The Steps that do not fetch (R330, 60_exceptions.md R355, R361, R362) -/

theorem haltWake_eq_false_iff {s : State} : haltWake s = false ↔ (s.ieReg &&& s.ifReg &&& 0x1F) = 0 := by
  simp [haltWake, State.anyPendingAndEnabled]

/-- A core that is not halted goes on with the fetch stage, and so does one that is woken (R355). -/
theorem step_halted_false {s : State} (hst : s.stopped = false) (hsv : serviceable s = none) :
    step { s with halted := false } = fetchAndExecute { s.clearOutputs with halted := false } :=
  step_of_fetchesNext ⟨hst, rfl, hsv⟩

/-- Settles O52, over the cases of R330. -/
theorem stepsThatDoNotFetch : Obligations.StepsThatDoNotFetch := by
  intro s
  obtain ⟨hst, hstep⟩ | ⟨hst, i, hsv, hstep⟩ | ⟨hst, hsv, hh, hw, hstep⟩ | ⟨hst, hsv, hw, hstep⟩ := step_cases s
  · exact ⟨fun _ => hstep, by simp [hst], by simp [hst], by simp [hst]⟩
  · refine ⟨by simp [hst], fun j _ hj => ?_, by simp [hsv], by simp [hsv]⟩
    cases hsv.symm.trans hj
    exact hstep
  · exact ⟨by simp [hst], by simp [hsv], fun _ _ _ _ => hstep,
      fun _ _ _ hne => absurd (haltWake_eq_false_iff.mp hw) hne⟩
  · refine ⟨by simp [hst], by simp [hsv], fun _ _ hh hz => ?_,
      fun _ _ _ _ => hstep.trans (step_halted_false hst hsv).symm⟩
    exact absurd (hw hh) (by simp [haltWake_eq_false_iff.mpr hz])

end Sys2Proof.Machine
end

section
/-! PROOFS of the statements of 60_exceptions.md and 70_reset_and_hazards.md, part 1: how an instruction and a Step can end,
and the cycle table. -/

namespace Sys2Proof.Machine

/-! ### The ways an instruction can end (R340 to R342) -/

/-- Only an invalid byte has no next state: every extended byte has a handler (D6). -/
theorem exec_next_or_invalid (i : Instr) (s : State) : (∃ t, exec i s = .next t) ∨ ∃ op, i = .invalid op := by
  obtain ⟨f, rfl⟩ : ∃ f : Form, f.toInstr = i := ⟨_, Form.toInstr_ofInstr i⟩
  rw [exec_toInstr]
  cases f with
  | invalid op => exact .inr ⟨op, rfl⟩
  | escape e => exact .inl ⟨_, effectOf_escape_eq_ext e s⟩
  | _ => exact .inl ⟨_, rfl⟩

/-- Settles O49: the invalid bytes are the only instructions without a next state. -/
theorem everyInstructionCompletes : Obligations.EveryInstructionCompletes := fun i s hinv _ =>
  (exec_next_or_invalid i s).resolve_right fun ⟨op, h⟩ => hinv op h

/-! ### The ways a Step can end (R340 to R342, 47_dispatch.md R330) -/

/-- The fetch stage gives a well-formed instruction whose encoding begins with the byte at PC. -/
theorem State.fetch_wellFormed_head (s : State) :
    WellFormed s.fetch.1 = true ∧ (encode s.fetch.1).head? = some s.fetchByte.1 := by
  cases hs : primarySlot s.fetchByte.1 with
  | inv =>
    obtain ⟨henc, hw⟩ := Slot.encodes_of_primarySlot hs 0 0
    simp only [State.fetch, hs, hw, henc, List.head?_cons, and_self]
  | op f =>
    obtain ⟨henc, hw⟩ := Slot.encodes_of_primarySlot hs 0 0
    simp only [State.fetch, hs, hw, henc, List.head?_cons, and_self]
  | opN k =>
    obtain ⟨henc, hw⟩ := Slot.encodes_of_primarySlot hs s.fetchByte.2.fetchByte.1 0
    simp only [State.fetch, hs, hw, henc, List.head?_cons, and_self]
  | opNN k =>
    obtain ⟨henc, hw⟩ := Slot.encodes_of_primarySlot hs 0
      (joinBytes s.fetchByte.2.fetchByte.2.fetchByte.1 s.fetchByte.2.fetchByte.1)
    simp only [State.fetch, hs, hw, henc, List.head?_cons, and_self]
  | pad f =>
    obtain ⟨henc, rfl⟩ := Slot.encodes_of_primarySlot hs 0 0
    simp only [State.fetch, hs, henc, List.head?_cons, and_true]
    rfl
  | esc =>
    have hfetch : s.fetch.1 = extendedInstr s.fetchByte.2.fetchByte.1 := by
      simp [State.fetch, hs, Config.unimplExtended]
    rw [hfetch, encode_extendedInstr, primarySlot_eq_esc.mp hs]
    exact ⟨wellFormed_extendedInstr _, rfl⟩

theorem State.primarySlot_of_fetch_invalid {s : State} {op : Byte} (h : s.fetch.1 = .invalid op) :
    primarySlot s.fetchByte.1 = .inv := by
  obtain ⟨hw, hhead⟩ := s.fetch_wellFormed_head
  rw [h] at hw hhead
  obtain rfl : op = s.fetchByte.1 := Option.some.inj hhead
  exact primarySlot_eq_inv.mpr (wellFormed_invalid.mp hw)

theorem fetchAndExecute_cases (s : State) :
    (∃ t, fetchAndExecute s = .next t) ∨
    (primarySlot s.fetchByte.1 = .inv ∧
      fetchAndExecute s = .fault (.invalidOpcode .primary s.fetchByte.1)) := by
  refine (exec_next_or_invalid s.fetch.1 s.fetch.2).imp_right fun ⟨op, hop⟩ => ?_
  have hs := State.primarySlot_of_fetch_invalid hop
  exact ⟨hs, fetchAndExecute_of_inv hs⟩

/-- Of the cases of a Step, only the one that fetches can fault, on the byte it fetches. -/
theorem step_next_or_fault (s : State) :
    (∃ t, step s = .next t) ∨
    ∃ op, primarySlot op = .inv ∧ step s = .fault (.invalidOpcode .primary op) ∧ s.stopped = false ∧
      serviceable s = none ∧ (s.IsRam s.pc → s.peek s.pc = op) := by
  obtain ⟨-, hstep⟩ | ⟨-, _, -, hstep⟩ | ⟨-, -, -, -, hstep⟩ | ⟨hstopped, hsv, -, hstep⟩ := step_cases s
  · exact .inl ⟨_, hstep⟩
  · exact .inl ⟨_, hstep⟩
  · exact .inl ⟨_, hstep⟩
  · rw [hstep]
    refine (fetchAndExecute_cases _).imp_right fun ⟨hslot, hfault⟩ =>
      ⟨_, hslot, hfault, hstopped, hsv, fun hram => ?_⟩
    exact (State.fetchByte_fst_ram (s := { s.clearOutputs with halted := false }) hram).symm

/-- Settles O59, over the two ways a Step ends. -/
theorem stepStopsOnlyOnInvalidBytes : Obligations.StepStopsOnlyOnInvalidBytes := by
  intro s
  obtain ⟨t, hstep⟩ | ⟨op, hslot, hstep, hstopped, hsv, hbyte⟩ := step_next_or_fault s <;> rw [hstep]
  · exact ⟨nofun, nofun⟩
  · refine ⟨nofun, fun r hr => ?_⟩
    cases hr
    exact ⟨op, primarySlot_eq_inv.mp hslot, rfl, hstopped, hsv, hbyte⟩

/-! ### Cycles (70_reset_and_hazards.md R401) -/

/-- Settles O45: a form's effect ends by setting its count; only a condition or the row of a handler decides which. -/
theorem cyclesFollowTheTable : Obligations.CyclesFollowTheTable := by
  intro f s t h
  rw [exec_toInstr] at h
  cases f with
  | invalid op => cases h
  | ext x => cases h; exact congrArg (· + 4) (extHandler_cycles x s)
  | escape e =>
    rw [effectOf_escape_eq_ext] at h
    cases h
    exact congrArg (· + 4) (extHandler_cycles (extendedForm e) s)
  | callCond cc nn | retCond cc | jpCond cc nn | jrCond cc d =>
    cases h
    simp only [doCallCond, doRetCond, doJpCond, doJrCond, cycleRow]
    split <;> rfl
  | _ => cases h; rfl

end Sys2Proof.Machine
end

section
/-! Part 2: the interrupt controller, the service step, and the input events. -/

namespace Sys2Proof

/-! ### Priority (R345, R348) -/

theorem IrqType.index_lt_length (i : IrqType) : i.index < IrqType.byPriority.length := by cases i <;> decide

theorem IrqType.byPriority_getElem_index (i : IrqType) : IrqType.byPriority[i.index]'i.index_lt_length = i := by
  cases i <;> rfl

theorem IrqType.index_byPriority_getElem : ∀ {k : Nat} (hk : k < IrqType.byPriority.length),
    IrqType.byPriority[k].index = k := by
  decide

/-- In the list of types, the first with a property is the least with it: a type stands at its index. -/
theorem IrqType.find?_byPriority_eq_some_iff {p : IrqType → Bool} {i : IrqType} :
    IrqType.byPriority.find? p = some i ↔ p i = true ∧ ∀ j : IrqType, j.index < i.index → ¬ p j = true := by
  rw [List.find?_eq_some_iff_getElem]
  refine and_congr_right fun _ => ⟨?_, fun hleast => ?_⟩
  · rintro ⟨k, hk, rfl, hbefore⟩ j hj
    have hj' := hbefore j.index (hj.trans_eq (index_byPriority_getElem hk))
    simpa [byPriority_getElem_index] using hj'
  · refine ⟨i.index, i.index_lt_length, i.byPriority_getElem_index, fun k hk => ?_⟩
    have hk' : k < IrqType.byPriority.length := hk.trans i.index_lt_length
    simpa using hleast IrqType.byPriority[k] ((index_byPriority_getElem hk').trans_lt hk)

namespace Machine

theorem byte_and_low5_eq_zero_iff (v : Byte) :
    v &&& 0x1F = 0 ↔ ∀ i ∈ IrqType.byPriority, v.getLsbD i.index = false := by
  revert v
  decide

/-- Settles O54: the types stand in the list by index, and the mask holds the bits of the types. -/
theorem highestPriorityIsTheLeastType : Obligations.HighestPriorityIsTheLeastType := by
  intro s
  refine ⟨fun i => ?_, ?_⟩
  · simp [State.highestPriority, IrqType.find?_byPriority_eq_some_iff, State.isEnabled, State.isPending,
      Config.irqBit, and_assoc]
  · rw [State.highestPriority, List.find?_eq_none, byte_and_low5_eq_zero_iff]
    simp [State.isEnabled, State.isPending, Config.irqBit]

/-! ### The service step (R350) -/

theorem serviceInterrupt_of_highestPriority {s : State} {i : IrqType} (hime : s.ime = true)
    (hi : s.highestPriority = some i) : serviceInterrupt s = takeInterrupt i s := by
  simp [serviceInterrupt, serviceable, hime, hi]

theorem serviceInterrupt_of_none {s : State} (h : s.ime = false ∨ s.highestPriority = none) :
    serviceInterrupt s = { s with cycles := 0 } := by
  have hnone : serviceable s = none := by
    rcases h with h | h <;> simp [serviceable, h]
  simp only [serviceInterrupt, hnone, State.took]

theorem toNat_vectorOf (i : IrqType) : (vectorOf i).toNat = 0x0040 + 8 * i.index := by cases i <;> rfl

/-- After steps 1 and 2 of R350 the service step reaches storage through the two writes of `Push16` alone. -/
theorem takeInterrupt_stores (i : IrqType) (s : State) :
    Stores [s.sp - 1, s.sp - 2] (State.clearIrq i { s with ime := false }) (takeInterrupt i s) :=
  stores_of_push16 (s := State.clearIrq i { s with ime := false }) s.pc rfl

/-- The registers after the service step: PC and SP as R350 says, the others kept. -/
theorem takeInterrupt_registers (i : IrqType) (s : State) :
    (takeInterrupt i s).pc = vectorOf i ∧ (takeInterrupt i s).sp = s.sp - 2 ∧ (takeInterrupt i s).f = s.f ∧
      ∀ r, (takeInterrupt i s).getReg r = s.getReg r := by
  rw [takeInterrupt_eq]
  exact ⟨rfl, State.push16_sp s.pc _, State.push16_f s.pc _, fun r => State.push16_getReg s.pc r _⟩

/-- The control booleans after the service step. -/
theorem takeInterrupt_control (i : IrqType) (s : State) :
    (takeInterrupt i s).ime = false ∧ (takeInterrupt i s).halted = false ∧
      (takeInterrupt i s).stopped = s.stopped := by
  rw [takeInterrupt_eq]
  exact ⟨State.push16_ime s.pc _, rfl, State.push16_stopped s.pc _⟩

theorem takeInterrupt_trace (i : IrqType) (s : State) :
    (takeInterrupt i s).trace = s.trace ++ [.write (s.sp - 1) (hiByte s.pc), .write (s.sp - 2) (loByte s.pc)] := by
  rw [takeInterrupt_eq]
  exact State.push16_trace s.pc _

/-- Settles O53: `Push16` on RAM cells reaches neither IE nor IF, so IF is as step 2 of R350 leaves it. -/
theorem serviceStepTakesTheInterrupt : Obligations.ServiceStepTakesTheInterrupt := by
  refine ⟨fun s i hinv hime hi hhigh hlow => ?_, fun s => serviceInterrupt_of_none⟩
  rw [serviceInterrupt_of_highestPriority hime hi, ← hiByte_eq_ofNat, ← loByte_eq_ofNat]
  obtain ⟨hmem, -⟩ := hinv
  obtain ⟨hpc, hsp, hf, hreg⟩ := takeInterrupt_registers i s
  obtain ⟨himeAfter, hhalted, hstopped⟩ := takeInterrupt_control i s
  obtain ⟨hpeekHigh, hpeekLow⟩ :=
    State.push16_peek (s := State.clearIrq i { s with ime := false }) s.pc hmem hhigh hlow
  have hstores := takeInterrupt_stores i s
  have hram : ∀ a ∈ [s.sp - 1, s.sp - 2], s.kindAt a = .ram :=
    List.forall_mem_cons.mpr ⟨hhigh, List.forall_mem_singleton.mpr hlow⟩
  have hif : (takeInterrupt i s).ifReg = putBit s.ifReg i.index false :=
    hstores.ifReg fun a ha => ne_of_eq_of_ne (hram a ha) (by decide)
  have hie : (takeInterrupt i s).ieReg = s.ieReg :=
    hstores.ieReg fun a ha => ne_of_eq_of_ne (hram a ha) (by decide)
  have hother : ∀ a, a ≠ s.sp - 1 → a ≠ s.sp - 2 → (takeInterrupt i s).peek a = s.peek a := fun a h1 h2 =>
    hstores.peek (List.not_mem_cons_of_ne_of_not_mem h1 (mt List.mem_singleton.mp h2))
  exact ⟨himeAfter, hhalted, hpc ▸ toNat_vectorOf i, hsp, rfl, hpeekHigh, hpeekLow, hother,
    fun j hj => hif ▸ getLsbD_putBit s.ifReg hj false, hie, hreg, hf, hstopped, hstores.env, takeInterrupt_trace i s⟩

/-! ### The input events (R345, R347, R362, 20_memory.md R75, 70_reset_and_hazards.md R380) -/

/-- Settles O58, over the events. -/
theorem eventsKeepTheInvariant : Obligations.EventsKeepTheInvariant := by
  intro s e hi
  obtain ⟨hmem, hpad, hif, hst⟩ := hi
  cases e with
  | reset =>
    rw [applyEvent, resetEvent_eq hif]
    obtain ⟨-, hpad', hif', hst'⟩ := invariantAtReset
    exact ⟨hmem, hpad', hif', hst'⟩
  | stopWake =>
    rw [applyEvent, stopWake]
    split
    · exact ⟨hmem, hpad, hif, fun h => h⟩
    · exact ⟨hmem, hpad, hif, hst⟩
  | request i => exact ⟨hmem, hpad, (putBit_irq_top s.ifReg i true).trans hif, hst⟩
  | clear i => exact ⟨hmem, hpad, (putBit_irq_top s.ifReg i false).trans hif, hst⟩
  | setIE v => exact ⟨hmem, hpad, hif, hst⟩
  | setIF v => exact ⟨hmem, hpad, (setIF_top s.ifReg v).trans hif, hst⟩
  | poke a v => exact ⟨Memory.store_wf hmem (word_toNat_lt a), hpad, hif, hst⟩

end Machine

end Sys2Proof
end
